-- ==== Sys2Proof/Word.lean ====
section
/-! DEFINITION. The widths of the block's values (10_state.md R22, R50): every stored value has 1 to 8 bits, and the one wider
quantity is the 16-bit serial word of WROW. A buffer is 8 separate rows of 8 bits (00_scope.md R13). -/

namespace Sys2Proof

/-- An 8-bit row, counter or operation word. -/
abbrev Byte := BitVec 8

/-- A frame-buffer slot index, 0 (FB0) or 1 (FB1) (R24, R74). -/
abbrev Slot := BitVec 1

/-- A piece identity, 0 or 1 (R32). -/
abbrev PieceId := BitVec 1

/-- A position component, 0 to 15, arithmetic mod 16 (R7 POS_BITS, R33). -/
abbrev Coord := BitVec 4

/-- An orientation, 0 to 3, arithmetic mod 4 (R7 ORI_BITS, R33). -/
abbrev Orient := BitVec 2

/-- The serial word of one WROW: the pixel byte in bits 15:8, the row-select byte in bits 7:0 (R117). -/
abbrev SerialWord := BitVec 16

/-- A buffer: 8 rows of 8 bits, row 0 the top row; bit c of a row is column c (R13, R51). -/
structure Rows where
  r0 : Byte
  r1 : Byte
  r2 : Byte
  r3 : Byte
  r4 : Byte
  r5 : Byte
  r6 : Byte
  r7 : Byte
deriving DecidableEq, Repr, Inhabited

/-- The rows of a buffer from the top row to the bottom row. -/
def Rows.toList (b : Rows) : List Byte :=
  [b.r0, b.r1, b.r2, b.r3, b.r4, b.r5, b.r6, b.r7]

/-- `0` as a buffer: all 8 rows are 0x00 (R13). -/
def Rows.zero : Rows := ⟨0, 0, 0, 0, 0, 0, 0, 0⟩

end Sys2Proof
end

