-- ==== Sys2Proof/Config.lean ====
section
/-! DEFINITION. The configuration: what is fixed when the machine is built (00_scope.md R7, R8; 70_reset_and_hazards.md R243).
R7's sizes are constants. R8's parameters (CATALOG, SPEED_RELOAD, LEVEL_INIT, ROWSEL, LED_POLARITY, FB_INIT) are fields of
`Config`; no source gives their values, so the machine's own configuration is `Config.parameters`, a constant with no body.
A `Config` carries the proof that its catalog is admitted (40_catalog.md R101), so an unadmitted catalog is refused at
configuration time and no state can hold one. -/

namespace Sys2Proof

/-- FULL_ROW: the byte with all 8 columns set (R7). -/
def fullRow : Byte := 0xFF

/-- SPAWN.x (R7). -/
def spawnX : Coord := 3

/-- SPAWN.y (R7). -/
def spawnY : Coord := 0

/-- SPAWN.o (R7). -/
def spawnO : Orient := 0

/-- A catalog entry (w, h, rows[0..2]): bounding width, bounding height and the bitmap of the 3 local rows; bit c of a row is
local column c (R42, R100). -/
structure CatEntry where
  w : BitVec 4
  h : BitVec 4
  row0 : Byte
  row1 : Byte
  row2 : Byte
deriving DecidableEq, Repr, Inhabited

/-- The four orientations of one piece (R7 ORIENTATIONS). -/
structure Piece where
  o0 : CatEntry
  o1 : CatEntry
  o2 : CatEntry
  o3 : CatEntry
deriving DecidableEq, Repr, Inhabited

/-- CATALOG: the read-only table of 2 × 4 entries (R42). -/
structure Catalog where
  p0 : Piece
  p1 : Piece
deriving DecidableEq, Repr, Inhabited

/-- All entries of one piece. -/
def Piece.entries (p : Piece) : List CatEntry := [p.o0, p.o1, p.o2, p.o3]

/-- All entries of the catalog, at index `4 * p + o` (R58). -/
def Catalog.entries (c : Catalog) : List CatEntry := c.p0.entries ++ c.p1.entries

/-- R101 (a): 1 ≤ w and 1 ≤ h. -/
def CatEntry.positive (e : CatEntry) : Bool := decide (1 ≤ e.w.toNat) && decide (1 ≤ e.h.toNat)

/-- R101 (b): w ≤ 8 and h ≤ 8. -/
def CatEntry.withinFrame (e : CatEntry) : Bool := decide (e.w.toNat ≤ 8) && decide (e.h.toNat ≤ 8)

/-- R101 (c), columns: bits at column ≥ w of every row are 0. -/
def CatEntry.columnsInside (e : CatEntry) : Bool :=
  decide (e.row0 >>> e.w.toNat = 0) && decide (e.row1 >>> e.w.toNat = 0) && decide (e.row2 >>> e.w.toNat = 0)

/-- R101 (c), rows: rows[r] = 0 for r ≥ h. -/
def CatEntry.rowsInside (e : CatEntry) : Bool :=
  decide (e.h.toNat ≤ 0 → e.row0 = 0) && decide (e.h.toNat ≤ 1 → e.row1 = 0) && decide (e.h.toNat ≤ 2 → e.row2 = 0)

/-- R101 (d): the spawn placement is in bounds for an entry (asked of orientation 0). -/
def CatEntry.spawnFits (e : CatEntry) : Bool :=
  decide (spawnX.toNat + e.w.toNat ≤ 8) && decide (spawnY.toNat + e.h.toNat ≤ 8)

/-- Constraints (a), (b) and (c) of R101 for one entry. -/
def CatEntry.admitted (e : CatEntry) : Bool :=
  e.positive && e.withinFrame && e.columnsInside && e.rowsInside

/-- Catalog admission (R8, R101): every entry meets (a), (b), (c), and the spawn placement of both pieces meets (d). -/
def Catalog.admitted (c : Catalog) : Bool :=
  c.entries.all CatEntry.admitted && c.p0.o0.spawnFits && c.p1.o0.spawnFits

/-- The default ROWSEL: entry c is `1 << c` (R115). -/
def defaultRowsel : Rows := ⟨0x01, 0x02, 0x04, 0x08, 0x10, 0x20, 0x40, 0x80⟩

/-- Admission of a ROWSEL table: the 8 row-select bytes differ. DEDUCED from R8's 'a different row for each of the 8 values'
(log entry 8): which physical row a byte enables is outside the block. -/
def rowselAdmitted (t : Rows) : Bool := decide t.toList.Nodup

/-- The parameters of R8. A value carries the proofs that it is admitted (R101, R8), so what R101 refuses cannot be built.
The default field values only show Lean that such a value exists; they are no machine's values. -/
structure Config where
  /-- CATALOG, OPEN. -/
  catalog : Catalog :=
    ⟨⟨⟨1, 1, 0, 0, 0⟩, ⟨1, 1, 0, 0, 0⟩, ⟨1, 1, 0, 0, 0⟩, ⟨1, 1, 0, 0, 0⟩⟩,
     ⟨⟨1, 1, 0, 0, 0⟩, ⟨1, 1, 0, 0, 0⟩, ⟨1, 1, 0, 0, 0⟩, ⟨1, 1, 0, 0, 0⟩⟩⟩
  /-- SPEED_RELOAD, OPEN. -/
  speedReload : Byte := 0
  /-- LEVEL_INIT, OPEN. -/
  levelInit : Byte := 0
  /-- ROWSEL as a table: row c is ROWSEL(c). The default is one-hot, the variant OPEN. -/
  rowsel : Rows := defaultRowsel
  /-- LED_POLARITY, OPEN: the physical level that lights a pixel or enables a row. -/
  ledPolarity : Bool := true
  /-- FB_INIT for slot 0: a draw of any value. -/
  fbInit0 : Rows := Rows.zero
  /-- FB_INIT for slot 1: a draw of any value. -/
  fbInit1 : Rows := Rows.zero
  /-- R101: the catalog is admitted. -/
  catalogAdmitted : catalog.admitted = true := by decide
  /-- R8: the ROWSEL table is admitted. -/
  rowselDistinct : rowselAdmitted rowsel = true := by decide
deriving DecidableEq, Repr, Inhabited

/-- Configuration-time refusal (R101, R243; 93_implementation_defined.md U1): a catalog or ROWSEL table that breaks a
constraint gives no configuration. -/
def Config.configure (catalog : Catalog) (speedReload levelInit : Byte) (rowsel : Rows) (ledPolarity : Bool)
    (fbInit0 fbInit1 : Rows) : Option Config :=
  if h : catalog.admitted = true then
    if k : rowselAdmitted rowsel = true then
      some ⟨catalog, speedReload, levelInit, rowsel, ledPolarity, fbInit0, fbInit1, h, k⟩
    else none
  else none

/-- The configuration this machine was built with. No source gives R8's values: the constant has no body, so no proof can
see which they are (log entry 1). -/
opaque Config.parameters : Config

end Sys2Proof
end

