-- ==== Sys2Proof/Syntax.lean ====
section
/-! DEFINITION. The operations (00_scope.md R2; 30_encoding.md R72, R75, R76): one constructor for each row of
spec/opcode_table.json. The host operations carry the operand their word encodes. A micro-operation carries the operands that
the calling rule passes to it (R100, R117, R141, R144, R145, R164): its identifier encodes none. -/

namespace Sys2Proof

/-- The command enumeration (R72). -/
inductive Command
  | none
  | rotate
  | left
  | right
  | down
deriving DecidableEq, Repr

/-- An 8-row buffer named as an operand of a collision-engine unit: BOARD, WORK or FB[s] (R12, R144, R145). -/
inductive BufId
  | board
  | work
  | fb (s : Slot)
deriving DecidableEq, Repr

/-- The fault codes' names (60_exceptions.md R210). -/
inductive FaultCode
  | illegalOpcode
  | reservedOperand
  | reservedCommand
  | displayNotReady
  | gameNotReady
deriving DecidableEq, Repr

/-- The operations of the table, in its order: 11 host rows, then the 16 micro-operations. -/
inductive Instr
  /-- DINIT S (R111). -/
  | dinit (s : Slot)
  /-- SETBUF S (R112). -/
  | setbuf (s : Slot)
  /-- WROW (R114). -/
  | wrow
  /-- GINIT (R160). -/
  | ginit
  /-- GSTART (R162). -/
  | gstart
  /-- GTICK (R170). -/
  | gtick
  /-- GCMD NONE (R163). -/
  | gcmdNone
  /-- GCMD ROT (R163). -/
  | gcmdRot
  /-- GCMD LEFT (R163). -/
  | gcmdLeft
  /-- GCMD RIGHT (R163). -/
  | gcmdRight
  /-- GCMD DOWN (R163). -/
  | gcmdDown
  /-- CAT_LOOKUP(p, o) (R100). -/
  | catLookup (p : PieceId) (o : Orient)
  /-- CHECK_BOUNDS(p, o, x, y) (R141). -/
  | checkBounds (p : PieceId) (o : Orient) (x y : Coord)
  /-- BLIT(D, p, o, x, y) (R144). -/
  | blit (d : BufId) (p : PieceId) (o : Orient) (x y : Coord)
  /-- CHECK_OVERLAP(A, B) (R145). -/
  | checkOverlap (a b : BufId)
  /-- CLEAR_WORK (R146). -/
  | clearWork
  /-- APPLY_CMD(c) (R164). -/
  | applyCmd (c : Command)
  /-- COMMIT (R171). -/
  | commit
  /-- REVERT (R172). -/
  | revert
  /-- LOCK (R173). -/
  | lock
  /-- ROW_CLEAR (R174). -/
  | rowClear
  /-- SPAWN (R175). -/
  | spawn
  /-- COMPOSE_HANDOFF (R176). -/
  | composeHandoff
  /-- SPEED_STEP (R177). -/
  | speedStep
  /-- SHIFT_OUT(w) (R117). -/
  | shiftOut (w : SerialWord)
  /-- SWAP_CHECK (R121). -/
  | swapCheck
  /-- START (R161). -/
  | start
deriving DecidableEq, Repr

/-- The operation is a host operation, that is, its row has format H0, HS or HC (R2, R76). -/
def Instr.isHost : Instr → Bool
  | .dinit _ => true
  | .setbuf _ => true
  | .wrow => true
  | .ginit => true
  | .gstart => true
  | .gtick => true
  | .gcmdNone => true
  | .gcmdRot => true
  | .gcmdLeft => true
  | .gcmdRight => true
  | .gcmdDown => true
  | .catLookup _ _ => false
  | .checkBounds _ _ _ _ => false
  | .blit _ _ _ _ _ => false
  | .checkOverlap _ _ => false
  | .clearWork => false
  | .applyCmd _ => false
  | .commit => false
  | .revert => false
  | .lock => false
  | .rowClear => false
  | .spawn => false
  | .composeHandoff => false
  | .speedStep => false
  | .shiftOut _ => false
  | .swapCheck => false
  | .start => false

end Sys2Proof
end

