-- ==== Sys2Proof/WellFormed.lean ====
section
/-! DEFINITION. Which operations the block's rules form. Every field of a host operation, and every piece, orientation,
position, command and serial word, is legal by its type (R33, R74, R103). What is left to check is the buffer operands of the
collision engine (42_collision.md R140, R144, R145). Catalog admission is checked in Config.lean. -/

namespace Sys2Proof

/-- BLIT's destination buffer is always WORK (R140, R144). -/
def blitTargetOk (d : BufId) : Bool := d == .work

/-- CHECK_OVERLAP's A is BOARD and its B is WORK (R145). -/
def overlapOperandsOk (a b : BufId) : Bool := a == .board && b == .work

/-- The operation is one that the block's rules form. -/
def Instr.wf : Instr → Bool
  | .dinit _ => true
  | .setbuf _ => true
  | .wrow => true
  | .ginit => true
  | .gstart => true
  | .gtick => true
  | .gcmdNone => true
  | .gcmdRot => true
  | .gcmdLeft => true
  | .gcmdRight => true
  | .gcmdDown => true
  | .catLookup _ _ => true
  | .checkBounds _ _ _ _ => true
  | .blit d _ _ _ _ => blitTargetOk d
  | .checkOverlap a b => overlapOperandsOk a b
  | .clearWork => true
  | .applyCmd _ => true
  | .commit => true
  | .revert => true
  | .lock => true
  | .rowClear => true
  | .spawn => true
  | .composeHandoff => true
  | .speedStep => true
  | .shiftOut _ => true
  | .swapCheck => true
  | .start => true

end Sys2Proof
end

