-- ==== Sys2Proof/Decode.lean ====
section
/-! DEFINITION. Decoding and encoding (30_encoding.md R70 to R78). `decodeHost` is the host port's decoder: total on the 256
words, in R77's order of checks, rejecting by the fault's name. `decodeMicro` reads a micro-operation identifier (R76), which
the block's sequencer uses and the host port never accepts; the operands of a micro-operation are passed beside its identifier
by the calling rule (R12, `call OP`), so they are an argument here (log entry 4). -/

namespace Sys2Proof

/-- What a decoder answers: the operation, or the fault that rejects the word. -/
inductive Decoded
  | ok (i : Instr)
  | reject (c : FaultCode)
deriving DecidableEq, Repr

/-- OP[7:4] (R70). -/
def opcodeOf (op : Byte) : BitVec 4 := op.extractLsb' 4 4

/-- OP[3:0] (R70). -/
def operandOf (op : Byte) : BitVec 4 := op.extractLsb' 0 4

/-- S = OP[0] in format HS (R71, R74). -/
def slotOf (op : Byte) : Slot := op.extractLsb' 0 1

/-- C = OP[2:0] in format HC (R71, R74). -/
def commandFieldOf (op : Byte) : BitVec 3 := op.extractLsb' 0 3

/-- The GCMD row that a command field selects; 5, 6 and 7 are reserved (R72). -/
def gcmdOf (c : BitVec 3) : Decoded :=
  if c = 0 then .ok .gcmdNone
  else if c = 1 then .ok .gcmdRot
  else if c = 2 then .ok .gcmdLeft
  else if c = 3 then .ok .gcmdRight
  else if c = 4 then .ok .gcmdDown
  else .reject .reservedCommand

/-- R77: the decode checks of the host port that depend on the word alone, in their order (R214). The readiness guards and
the halt, which depend on the state, stand in `Machine.guarded`. -/
def decodeHost (op : Byte) : Decoded :=
  let opc := opcodeOf op
  let opd := operandOf op
  if opc = 0x0 ∨ 0x8 ≤ opc then .reject .illegalOpcode
  else if (opc = 0x1 ∨ opc = 0x2) ∧ opd.extractLsb' 1 3 ≠ 0 then .reject .reservedOperand
  else if (opc = 0x3 ∨ opc = 0x4 ∨ opc = 0x5 ∨ opc = 0x6) ∧ opd ≠ 0 then .reject .reservedOperand
  else if opc = 0x7 ∧ opd.getLsbD 3 = true then .reject .reservedOperand
  else if opc = 0x1 then .ok (.dinit (slotOf op))
  else if opc = 0x2 then .ok (.setbuf (slotOf op))
  else if opc = 0x3 then .ok .wrow
  else if opc = 0x4 then .ok .ginit
  else if opc = 0x5 then .ok .gstart
  else if opc = 0x6 then .ok .gtick
  else gcmdOf (commandFieldOf op)

/-- The operands a calling rule passes to a micro-operation beside its identifier. A micro-operation reads only those its
rule names. -/
structure CallArgs where
  p : PieceId := 0
  o : Orient := 0
  x : Coord := 0
  y : Coord := 0
  c : Command := .none
  w : SerialWord := 0
  d : BufId := .work
  a : BufId := .board
  b : BufId := .work
deriving DecidableEq, Repr

/-- R76: the micro-operation an identifier names. -/
def decodeMicro (id : Byte) (args : CallArgs) : Decoded :=
  if id = 0x80 then .ok (.catLookup args.p args.o)
  else if id = 0x81 then .ok (.checkBounds args.p args.o args.x args.y)
  else if id = 0x82 then .ok (.blit args.d args.p args.o args.x args.y)
  else if id = 0x83 then .ok (.checkOverlap args.a args.b)
  else if id = 0x84 then .ok .clearWork
  else if id = 0x85 then .ok (.applyCmd args.c)
  else if id = 0x86 then .ok .commit
  else if id = 0x87 then .ok .revert
  else if id = 0x88 then .ok .lock
  else if id = 0x89 then .ok .rowClear
  else if id = 0x8A then .ok .spawn
  else if id = 0x8B then .ok .composeHandoff
  else if id = 0x8C then .ok .speedStep
  else if id = 0x8D then .ok (.shiftOut args.w)
  else if id = 0x8E then .ok .swapCheck
  else if id = 0x8F then .ok .start
  else .reject .illegalOpcode

/-- The whole table: a host word by R77, and an identifier of the U rows by R76. -/
def decodeTable (op : Byte) (args : CallArgs) : Decoded :=
  if 0x8 ≤ opcodeOf op then decodeMicro op args else decodeHost op

/-- The table's word of an operation: OP for a host operation (R75), the identifier for a micro-operation (R76). -/
def encode : Instr → Byte
  | .dinit s => 0x10#8 ||| s.setWidth 8
  | .setbuf s => 0x20#8 ||| s.setWidth 8
  | .wrow => 0x30
  | .ginit => 0x40
  | .gstart => 0x50
  | .gtick => 0x60
  | .gcmdNone => 0x70
  | .gcmdRot => 0x71
  | .gcmdLeft => 0x72
  | .gcmdRight => 0x73
  | .gcmdDown => 0x74
  | .catLookup _ _ => 0x80
  | .checkBounds _ _ _ _ => 0x81
  | .blit _ _ _ _ _ => 0x82
  | .checkOverlap _ _ => 0x83
  | .clearWork => 0x84
  | .applyCmd _ => 0x85
  | .commit => 0x86
  | .revert => 0x87
  | .lock => 0x88
  | .rowClear => 0x89
  | .spawn => 0x8A
  | .composeHandoff => 0x8B
  | .speedStep => 0x8C
  | .shiftOut _ => 0x8D
  | .swapCheck => 0x8E
  | .start => 0x8F

/-- The operands that stand beside an operation's word: none for a host operation, whose word holds them all. -/
def callArgs : Instr → CallArgs
  | .dinit _ => {}
  | .setbuf _ => {}
  | .wrow => {}
  | .ginit => {}
  | .gstart => {}
  | .gtick => {}
  | .gcmdNone => {}
  | .gcmdRot => {}
  | .gcmdLeft => {}
  | .gcmdRight => {}
  | .gcmdDown => {}
  | .catLookup p o => { p := p, o := o }
  | .checkBounds p o x y => { p := p, o := o, x := x, y := y }
  | .blit d p o x y => { d := d, p := p, o := o, x := x, y := y }
  | .checkOverlap a b => { a := a, b := b }
  | .clearWork => {}
  | .applyCmd c => { c := c }
  | .commit => {}
  | .revert => {}
  | .lock => {}
  | .rowClear => {}
  | .spawn => {}
  | .composeHandoff => {}
  | .speedStep => {}
  | .shiftOut w => { w := w }
  | .swapCheck => {}
  | .start => {}

/-- The code of a command in the field C (R72). -/
def commandCode : Command → BitVec 3
  | .none => 0
  | .rotate => 1
  | .left => 2
  | .right => 3
  | .down => 4

/-- The GCMD operation that carries a command (R75). -/
def gcmd : Command → Instr
  | .none => .gcmdNone
  | .rotate => .gcmdRot
  | .left => .gcmdLeft
  | .right => .gcmdRight
  | .down => .gcmdDown

/-- The operation word that the host interface's number stands for: the low `nbits` bits of `w`, or none where they do not
fit the one 8-bit word an operation has (R70). -/
def tableWord (nbits w : Nat) : Option Byte :=
  if w % 2 ^ nbits < 256 then some (BitVec.ofNat 8 (w % 2 ^ nbits)) else none

/-- The operation the decoder reads from a table word; the operands beside a micro-operation's identifier are zero. -/
def decodeTableWord (nbits w : Nat) : Option Instr :=
  match tableWord nbits w with
  | none => none
  | some op =>
    match decodeTable op {} with
    | .ok i => some i
    | .reject _ => none

end Sys2Proof
end

