-- ==== Sys2Proof/Machine/State.lean ====
section
/-! DEFINITION. The machine's state (10_state.md R22 to R42), its reset (70_reset_and_hazards.md R240) and the reasons a step can
stop. A fault of the spec is no stop: it is the state that FAULT ≠ 0 names (60_exceptions.md R211, R212). -/

namespace Sys2Proof.Machine

/-- The three output lines (R27). -/
inductive Line
  | data
  | sclk
  | latch
deriving DecidableEq, Repr

/-- The bounds result BR (R73): None, Bottom or Side. -/
inductive BoundsResult
  | none
  | bottom
  | side
deriving DecidableEq, Repr

/-- One pin event: a line and the level driven on it (R37). -/
abbrev PinEvent := Line × Bool

/-- No step ends in a fault of the host interface: the spec's faults write FAULT and FAULT_OP and halt the block in a state
(R211, R212, R220), and no fault arises after decode (R215). So this type has no constructor. -/
inductive Fault
deriving DecidableEq, Repr

/-- Why a step could have no meaning. -/
inductive Refusal
  /-- Raised by an arm of `exec` whose operation has no meaning yet. No arm raises it. Safe: a run stops there. -/
  | notModelled (mnemonic : String)
deriving DecidableEq, Repr

/-- Everything the block holds, with the configuration it was built with and the words its host is going to present. The
register ids of R22 stand in each field's docstring. -/
structure State where
  /-- R8 and R42: the parameters and the read-only catalog. No operation writes it. -/
  cfg : Config
  /-- The MODEL's own field: the words on the host operation port, next word first (R6, R55; log entry 2). -/
  port : List Byte
  /-- 0x00 DISP_READY (R23). -/
  dispReady : Bool
  /-- 0x01 ACTIVE: the slot the scanner reads (R24). -/
  active : Slot
  /-- 0x02 PEND_V: a slot is pending (R25). -/
  pendV : Bool
  /-- 0x03 PEND: the pending slot (R25). -/
  pend : Slot
  /-- 0x04 CURSOR: the row the next WROW scans (R26). -/
  cursor : BitVec 3
  /-- 0x05 OE: the output lines are driven (R27). -/
  oe : Bool
  /-- 0x06 DATA (R27). -/
  data : Bool
  /-- 0x07 SCLK (R27). -/
  sclk : Bool
  /-- 0x08 LATCH (R27). -/
  latch : Bool
  /-- 0x10 GAME_READY (R28). -/
  gameReady : Bool
  /-- 0x11 PID: the current piece's identity (R32). -/
  pid : PieceId
  /-- 0x12 X of the working placement (R33). -/
  x : Coord
  /-- 0x13 Y of the working placement (R33). -/
  y : Coord
  /-- 0x14 ORI of the working placement (R33). -/
  ori : Orient
  /-- 0x15 GX of the shadow placement (R34). -/
  gx : Coord
  /-- 0x16 GY of the shadow placement (R34). -/
  gy : Coord
  /-- 0x17 GORI of the shadow placement (R34). -/
  gori : Orient
  /-- 0x18 SPEED: the countdown (R35). -/
  speed : Byte
  /-- 0x19 LEVEL: the threshold (R35). -/
  level : Byte
  /-- 0x1E FAULT_OP: the word that raised the fault (R36). -/
  faultOp : Byte
  /-- 0x1F FAULT: 0, or the code of the first fault (R36). -/
  fault : BitVec 3
  /-- 0x20-0x27 BOARD: the locked cells (R29). -/
  board : Rows
  /-- 0x28-0x2F WORK: the working frame (R30). -/
  work : Rows
  /-- 0x30-0x37 FB[0] (R31). -/
  fb0 : Rows
  /-- 0x38-0x3F FB[1] (R31). -/
  fb1 : Rows
  /-- BR, the transient bounds result; it holds a value only inside an operation (R38). -/
  br : Option BoundsResult
  /-- OVF, the transient overlap-free result; it holds a value only inside an operation (R38). -/
  ovf : Option Bool
  /-- The transient catalog entry that CAT_LOOKUP returned; it holds a value only inside an operation (R38, R100). -/
  entry : Option CatEntry
  /-- LTRACE: the latched (pixel byte, row-select byte) pairs, oldest first (R37). -/
  ltrace : List (Byte × Byte)
  /-- PTRACE: the pin events, oldest first (R37). -/
  ptrace : List PinEvent
deriving DecidableEq, Repr

/-- The machine right after power-on reset (R240): DISP_READY, GAME_READY, OE and FAULT are 0, the slots hold FB_INIT, the
traces are empty, and no host word is waiting. Every register R240 calls unspecified is 0 (DESIGN CHOICE, log entry 3). -/
def State.reset : State where
  cfg := Config.parameters
  port := []
  dispReady := false
  active := 0
  pendV := false
  pend := 0
  cursor := 0
  oe := false
  data := false
  sclk := false
  latch := false
  gameReady := false
  pid := 0
  x := 0
  y := 0
  ori := 0
  gx := 0
  gy := 0
  gori := 0
  speed := 0
  level := 0
  faultOp := 0
  fault := 0
  board := Rows.zero
  work := Rows.zero
  fb0 := Config.parameters.fbInit0
  fb1 := Config.parameters.fbInit1
  br := none
  ovf := none
  entry := none
  ltrace := []
  ptrace := []

end Sys2Proof.Machine
end

