-- ==== Sys2Proof/Machine/Operands.lean ====
section
/-! DEFINITION. How operands are read and written: rows of a buffer (20_memory.md R52, R53), buffers and slots named as operands
(R12, R24), catalog entries (R42) and the row-select table (R115). -/

namespace Sys2Proof

/-- The row indices from the top row to the bottom row (R7 N_ROWS). -/
def rowOrder : List (Fin 8) := [0, 1, 2, 3, 4, 5, 6, 7]

/-- BUF[i] (R12). -/
def Rows.get (b : Rows) (i : Fin 8) : Byte :=
  match i with
  | 0 => b.r0
  | 1 => b.r1
  | 2 => b.r2
  | 3 => b.r3
  | 4 => b.r4
  | 5 => b.r5
  | 6 => b.r6
  | 7 => b.r7

/-- The buffer whose row i is `f i`. -/
def Rows.ofFn (f : Fin 8 → Byte) : Rows := ⟨f 0, f 1, f 2, f 3, f 4, f 5, f 6, f 7⟩

/-- BUF[i] <- v (R12). -/
def Rows.set (b : Rows) (i : Fin 8) (v : Byte) : Rows := Rows.ofFn fun j => if j = i then v else b.get j

/-- `A | B` on buffers, row by row (R13). -/
def Rows.or (a b : Rows) : Rows := Rows.ofFn fun i => a.get i ||| b.get i

/-- D[k] <- D[k] | v where row k exists; a row past the bottom is dropped (R144). -/
def Rows.orRow (b : Rows) (k : Nat) (v : Byte) : Rows :=
  if h : k < 8 then b.set ⟨k, h⟩ (b.get ⟨k, h⟩ ||| v) else b

/-- The entry of one piece at an orientation. -/
def Piece.at (p : Piece) (o : Orient) : CatEntry :=
  if o = 0 then p.o0 else if o = 1 then p.o1 else if o = 2 then p.o2 else p.o3

/-- rows[r] of a catalog entry, r in 0..2 (R42). -/
def CatEntry.row (e : CatEntry) (r : Nat) : Byte :=
  if r = 0 then e.row0 else if r = 1 then e.row1 else e.row2

end Sys2Proof

namespace Sys2Proof.Machine

/-- CURSOR as a row index: 3 bits, so always 0 to 7 (R52). -/
def rowIndex (cursor : BitVec 3) : Fin 8 := ⟨cursor.toNat, cursor.isLt⟩

/-- The other slot: 1 - s (R176). -/
def otherSlot (s : Slot) : Slot := 1 - s

/-- FB[t] (R31). -/
def State.fb (s : State) (t : Slot) : Rows := if t = 0 then s.fb0 else s.fb1

/-- FB[t] <- b: one whole slot (R31, R53). -/
def State.setFb (s : State) (t : Slot) (b : Rows) : State :=
  { s with fb0 := if t = 0 then b else s.fb0, fb1 := if t = 0 then s.fb1 else b }

/-- The buffer an operand names (R12). -/
def State.buf (s : State) (d : BufId) : Rows :=
  match d with
  | .board => s.board
  | .work => s.work
  | .fb t => s.fb t

/-- Write the buffer an operand names (R12). -/
def State.setBuf (s : State) (d : BufId) (b : Rows) : State :=
  { s with
    board := if d = .board then b else s.board
    work := if d = .work then b else s.work
    fb0 := if d = .fb 0 then b else s.fb0
    fb1 := if d = .fb 1 then b else s.fb1 }

/-- CatRead(p, o) = CATALOG[p][o] (R100). -/
def catRead (c : Config) (p : PieceId) (o : Orient) : CatEntry :=
  if p = 0 then c.catalog.p0.at o else c.catalog.p1.at o

/-- ROWSEL(c) (R8, R115). -/
def rowsel (c : Config) (cursor : BitVec 3) : Byte := c.rowsel.get (rowIndex cursor)

/-- The serial word p:s (R10, R114). -/
def serialWord (p s : Byte) : SerialWord := p ++ s

/-- The level a line is driven at, or none while OE = 0: the line is high-impedance (R27). -/
def State.pin (s : State) (l : Line) : Option Bool :=
  if s.oe then
    some (match l with
      | .data => s.data
      | .sclk => s.sclk
      | .latch => s.latch)
  else none

end Sys2Proof.Machine
end

