-- ==== Sys2Proof/Machine/Flags.lean ====
section
/-! DEFINITION. The block has no condition codes (10_state.md R38). Its two transient results, BR and OVF, and their computation
(42_collision.md R141, R145; 30_encoding.md R73). -/

namespace Sys2Proof.Machine

/-- The 2-bit encoding of BR; 3 is never produced (R73). -/
def BoundsResult.code : BoundsResult → BitVec 2
  | .none => 0
  | .bottom => 1
  | .side => 2

/-- The bounds check of R141: the sums are on naturals, and Side takes precedence over Bottom. -/
def boundsOf (c : Config) (p : PieceId) (o : Orient) (x y : Coord) : BoundsResult :=
  if x.toNat + (catRead c p o).w.toNat > 8 then .side
  else if y.toNat + (catRead c p o).h.toNat > 8 then .bottom
  else .none

/-- The overlap check of R145: true where the buffers are disjoint in every row. -/
def disjoint (a b : Rows) : Bool :=
  rowOrder.all fun i => decide (a.get i &&& b.get i = 0)

end Sys2Proof.Machine
end

