-- ==== Sys2Proof/Machine/Ops.lean ====
section
/-! DEFINITION. The named operations that the meanings share: the pins and traces, taking a fault, the guards of a host operation,
and the unit functions of 30_encoding.md R76, each written from its own rule. There is no return from a fault: only reset leaves
the halted state (60_exceptions.md R212, R221). -/

namespace Sys2Proof.Machine

/-! ## Pins and traces -/

/-- Pin(line) <- level: drive the line and record one event, even where the level does not change (R12, R117). -/
def State.drive (s : State) (l : Line) (v : Bool) : State :=
  { s with
    data := if l = .data then v else s.data
    sclk := if l = .sclk then v else s.sclk
    latch := if l = .latch then v else s.latch
    ptrace := s.ptrace ++ [(l, v)] }

/-- A sequence of pin assignments, in order. -/
def State.driveAll (s : State) (es : List PinEvent) : State := es.foldl (fun s e => s.drive e.1 e.2) s

/-- Emit(p, s): append the pair to LTRACE (R12, R37). -/
def State.emit (s : State) (p r : Byte) : State := { s with ltrace := s.ltrace ++ [(p, r)] }

/-! ## Faults and guards -/

/-- The code of a fault (R210). -/
def faultCode : FaultCode → BitVec 3
  | .illegalOpcode => 1
  | .reservedOperand => 2
  | .reservedCommand => 3
  | .displayNotReady => 4
  | .gameNotReady => 5

/-- raise Fault(code): FAULT and FAULT_OP are written and nothing else changes (R211). -/
def raiseFault (c : FaultCode) (op : Byte) (s : State) : State := { s with fault := faultCode c, faultOp := op }

/-- A host operation around its rule's own effect (R77, R212, R213): no effect while halted; then the display guard, then the
game guard, for the operations that need them; then the effect. `op` is the operation's word, which FAULT_OP records. -/
def guarded (op : Byte) (needsDisplay needsGame : Bool) (effect : State → State) (s : State) : State :=
  if s.fault ≠ 0 then s
  else if needsDisplay = true ∧ s.dispReady = false then raiseFault .displayNotReady op s
  else if needsGame = true ∧ s.gameReady = false then raiseFault .gameNotReady op s
  else effect s

/-! ## Display driver -/

/-- DINIT's effect (R111). -/
def displayInit (slot : Slot) (s : State) : State :=
  { ({ s with oe := true }.driveAll [(.data, false), (.sclk, false), (.latch, false)]) with
    active := slot
    pendV := false
    cursor := 0
    dispReady := true }

/-- SETBUF's effect, which is COMPOSE_HANDOFF's too (R112, R176). -/
def queueSlot (t : Slot) (s : State) : State := { s with pend := t, pendV := true }

/-- The bit numbers of the serial word in the order they are shifted (R117, R118). -/
def bitOrder : List Nat := [15, 14, 13, 12, 11, 10, 9, 8, 7, 6, 5, 4, 3, 2, 1, 0]

/-- The pin events of one bit: DATA, then a high-low pulse of SCLK (R117). -/
def bitEvents (w : SerialWord) (i : Nat) : List PinEvent := [(.data, w.getLsbD i), (.sclk, true), (.sclk, false)]

/-- The 50 pin events of SHIFT_OUT: 16 bits, most significant first, then one pulse of LATCH (R117). -/
def shiftEvents (w : SerialWord) : List PinEvent :=
  bitOrder.flatMap (bitEvents w) ++ [(.latch, true), (.latch, false)]

/-- SHIFT_OUT(w) (R117). -/
def shiftOut (w : SerialWord) (s : State) : State := s.driveAll (shiftEvents w)

/-- SWAP_CHECK: the cursor's advance and the deferred swap (R121). -/
def swapCheck (s : State) : State :=
  if s.cursor + 1 = 0 ∧ s.pendV = true then { s with cursor := s.cursor + 1, active := s.pend, pendV := false }
  else { s with cursor := s.cursor + 1 }

/-- The pixel byte that the next WROW emits (R114). -/
def pixelByte (s : State) : Byte := (s.fb s.active).get (rowIndex s.cursor)

/-- WROW up to its swap check: shift the row out and record the latched pair (R114). -/
def scanRow (s : State) : State :=
  (shiftOut (serialWord (pixelByte s) (rowsel s.cfg s.cursor)) s).emit (pixelByte s) (rowsel s.cfg s.cursor)

/-- WROW's effect (R114). -/
def writeRow (s : State) : State := swapCheck (scanRow s)

/-! ## Catalog and collision engine -/

/-- CAT_LOOKUP(p, o): a pure read; the entry it returns is a transient (R38, R100). -/
def catLookup (p : PieceId) (o : Orient) (s : State) : State := { s with entry := some (catRead s.cfg p o) }

/-- CHECK_BOUNDS(p, o, x, y): BR gets the result (R141). -/
def checkBounds (p : PieceId) (o : Orient) (x y : Coord) (s : State) : State :=
  { s with br := some (boundsOf s.cfg p o x y) }

/-- One row of the blit: local row r goes to row y + r, shifted left by x; bits past column 7 are lost (R144). -/
def blitRow (e : CatEntry) (x y : Coord) (d : Rows) (r : Nat) : Rows := d.orRow (y.toNat + r) (e.row r <<< x.toNat)

/-- The buffer D after the piece is OR-ed into it, all 3 bitmap rows (R144). -/
def blitRows (e : CatEntry) (x y : Coord) (d : Rows) : Rows := [0, 1, 2].foldl (blitRow e x y) d

/-- BLIT(D, p, o, x, y) (R144). -/
def blit (d : BufId) (p : PieceId) (o : Orient) (x y : Coord) (s : State) : State :=
  s.setBuf d (blitRows (catRead s.cfg p o) x y (s.buf d))

/-- CHECK_OVERLAP(A, B): OVF gets the result (R145). -/
def checkOverlap (a b : BufId) (s : State) : State := { s with ovf := some (disjoint (s.buf a) (s.buf b)) }

/-- CLEAR_WORK (R146). -/
def clearWork (s : State) : State := { s with work := Rows.zero }

/-! ## Game state machine -/

/-- APPLY_CMD(c): nothing is validated; positions are mod 16 and the orientation mod 4 (R164). -/
def applyCmd (c : Command) (s : State) : State :=
  match c with
  | .none => s
  | .rotate => { s with ori := s.ori + 1 }
  | .left => { s with x := s.x - 1 }
  | .right => { s with x := s.x + 1 }
  | .down => { s with y := s.y + 1 }

/-- COMMIT: the shadow becomes the working placement (R171). -/
def commit (s : State) : State := { s with gx := s.x, gy := s.y, gori := s.ori }

/-- REVERT: the working placement becomes the shadow, and WORK is cleared and blitted again (R172). -/
def revert (s : State) : State :=
  blit .work s.pid s.gori s.gx s.gy (clearWork { s with x := s.gx, y := s.gy, ori := s.gori })

/-- LOCK: merge WORK into BOARD (R173). -/
def lock (s : State) : State := { s with board := s.board.or s.work }

/-- Remove row i: every row above it moves down by one and row 0 becomes 0x00 (R174). -/
def removeRow (b : Rows) (i : Fin 8) : Rows :=
  Rows.ofFn fun j => if j ≤ i then (if j = 0 then 0 else b.get (j - 1)) else b.get j

/-- One step of the row-clear scan at row i (R174). -/
def clearStep (bl : Rows × Byte) (i : Fin 8) : Rows × Byte :=
  if bl.1.get i = fullRow then (removeRow bl.1 i, bl.2 + 1) else bl

/-- The single pass from the top row to the bottom row, over BOARD and LEVEL (R174). Irreducible, so that comparing two states
does not run the pass; `unfold clearRows` opens it. -/
@[irreducible] def clearRows (b : Rows) (level : Byte) : Rows × Byte := rowOrder.foldl clearStep (b, level)

/-- ROW_CLEAR (R174). -/
def rowClear (s : State) : State :=
  { s with board := (clearRows s.board s.level).1, level := (clearRows s.board s.level).2 }

/-- SPAWN: toggle the identity; both placements become the spawn placement (R175). -/
def spawn (s : State) : State :=
  { s with
    pid := s.pid ^^^ 1
    x := spawnX
    y := spawnY
    ori := spawnO
    gx := spawnX
    gy := spawnY
    gori := spawnO }

/-- START (R161). -/
def start (s : State) : State :=
  spawn { s with board := Rows.zero, level := s.cfg.levelInit, speed := s.cfg.speedReload }

/-- GINIT's effect (R160). -/
def gameInit (s : State) : State :=
  { s with
    board := Rows.zero
    work := Rows.zero
    pid := 1
    x := spawnX
    y := spawnY
    ori := spawnO
    gx := spawnX
    gy := spawnY
    gori := spawnO
    level := s.cfg.levelInit
    speed := s.cfg.speedReload
    gameReady := true }

/-- COMPOSE_HANDOFF: compose BOARD | WORK into the slot that is not active, and queue it (R176). -/
def composeHandoff (s : State) : State :=
  queueSlot (otherSlot s.active) (s.setFb (otherSlot s.active) (s.board.or s.work))

/-- SPEED_STEP: count down; at the threshold, inject a Down and reload (R177). -/
def speedStep (s : State) : State :=
  if s.speed - 1 = s.level then { applyCmd .down s with speed := s.cfg.speedReload }
  else { s with speed := s.speed - 1 }

/-- Steps 1 and 2 of the tick: clear WORK, check the bounds, blit the working placement (R170). -/
def tickBlit (s : State) : State :=
  blit .work s.pid s.ori s.x s.y (checkBounds s.pid s.ori s.x s.y (clearWork s))

/-- Step 3 after REVERT: a Side violation is final; otherwise an overlap of the reverted placement is game over, and a free
placement locks (R170). -/
def tickReverted (s : State) : State :=
  if s.br = some .side then s
  else if (checkOverlap .board .work s).ovf = some false then start (checkOverlap .board .work s)
  else spawn (rowClear (lock (checkOverlap .board .work s)))

/-- Step 3 of the tick: revert where the bounds check or the overlap check fails, commit otherwise (R170; 90_conflicts.md C2). -/
def tickDecide (s : State) : State :=
  if s.br ≠ some .none ∨ (checkOverlap .board .work s).ovf = some false then
    tickReverted (revert (checkOverlap .board .work s))
  else commit (checkOverlap .board .work s)

/-- BR, OVF and a returned catalog entry are not state between operations (R38). -/
def dropTransients (s : State) : State := { s with br := none, ovf := none, entry := none }

/-- GTICK's effect: the five steps in order (R170). -/
def tick (s : State) : State := dropTransients (speedStep (composeHandoff (tickDecide (tickBlit s))))

end Sys2Proof.Machine
end

