-- ==== Sys2Proof/Machine/Collision.lean ====
section
/-! DEFINITION. The meanings of the catalog lookup (40_catalog.md) and of the collision engine's units (42_collision.md). They are
micro-operations: part of an enclosing operation, whose guards have passed (00_scope.md R12; 30_encoding.md R76). -/

namespace Sys2Proof.Machine

/-- CAT_LOOKUP(p, o) (R100). -/
def execCatLookup (p : PieceId) (o : Orient) (s : State) : Host.Outcome State Fault Refusal := .next (catLookup p o s)

/-- CHECK_BOUNDS(p, o, x, y) (R141). -/
def execCheckBounds (p : PieceId) (o : Orient) (x y : Coord) (s : State) : Host.Outcome State Fault Refusal :=
  .next (checkBounds p o x y s)

/-- BLIT(D, p, o, x, y) (R144). -/
def execBlit (d : BufId) (p : PieceId) (o : Orient) (x y : Coord) (s : State) : Host.Outcome State Fault Refusal :=
  .next (blit d p o x y s)

/-- CHECK_OVERLAP(A, B) (R145). -/
def execCheckOverlap (a b : BufId) (s : State) : Host.Outcome State Fault Refusal := .next (checkOverlap a b s)

/-- CLEAR_WORK (R146). -/
def execClearWork (s : State) : Host.Outcome State Fault Refusal := .next (clearWork s)

end Sys2Proof.Machine
end

