-- ==== Sys2Proof/Machine/Display.lean ====
section
/-! DEFINITION. The meanings of the display driver's operations (41_display.md). -/

namespace Sys2Proof.Machine

/-- DINIT S needs neither ready flag (R111, R213). -/
def execDinit (slot : Slot) (s : State) : Host.Outcome State Fault Refusal :=
  .next (guarded (encode (.dinit slot)) false false (displayInit slot) s)

/-- SETBUF S needs DISP_READY (R112, R213). -/
def execSetbuf (slot : Slot) (s : State) : Host.Outcome State Fault Refusal :=
  .next (guarded (encode (.setbuf slot)) true false (queueSlot slot) s)

/-- WROW needs DISP_READY (R114, R213). -/
def execWrow (s : State) : Host.Outcome State Fault Refusal :=
  .next (guarded (encode .wrow) true false writeRow s)

/-- SHIFT_OUT(w), part of WROW (R117). -/
def execShiftOut (w : SerialWord) (s : State) : Host.Outcome State Fault Refusal := .next (shiftOut w s)

/-- SWAP_CHECK, part of WROW (R121). -/
def execSwapCheck (s : State) : Host.Outcome State Fault Refusal := .next (swapCheck s)

end Sys2Proof.Machine
end

