-- ==== Sys2Proof/Machine/Game.lean ====
section
/-! DEFINITION. The meanings of the game state machine's operations (43_game.md): the host operations with their guards (R213),
then the micro-operations, each part of an enclosing operation whose guards have passed (R12, R76). -/

namespace Sys2Proof.Machine

/-- GINIT needs neither ready flag (R160, R213). -/
def execGinit (s : State) : Host.Outcome State Fault Refusal := .next (guarded (encode .ginit) false false gameInit s)

/-- GSTART needs GAME_READY (R162, R213). -/
def execGstart (s : State) : Host.Outcome State Fault Refusal := .next (guarded (encode .gstart) false true start s)

/-- GTICK needs DISP_READY and GAME_READY (R170, R213). -/
def execGtick (s : State) : Host.Outcome State Fault Refusal := .next (guarded (encode .gtick) true true tick s)

/-- GCMD NONE (R163). -/
def execGcmdNone (s : State) : Host.Outcome State Fault Refusal :=
  .next (guarded (encode .gcmdNone) false true (applyCmd .none) s)

/-- GCMD ROT (R163). -/
def execGcmdRot (s : State) : Host.Outcome State Fault Refusal :=
  .next (guarded (encode .gcmdRot) false true (applyCmd .rotate) s)

/-- GCMD LEFT (R163). -/
def execGcmdLeft (s : State) : Host.Outcome State Fault Refusal :=
  .next (guarded (encode .gcmdLeft) false true (applyCmd .left) s)

/-- GCMD RIGHT (R163). -/
def execGcmdRight (s : State) : Host.Outcome State Fault Refusal :=
  .next (guarded (encode .gcmdRight) false true (applyCmd .right) s)

/-- GCMD DOWN (R163). -/
def execGcmdDown (s : State) : Host.Outcome State Fault Refusal :=
  .next (guarded (encode .gcmdDown) false true (applyCmd .down) s)

/-- APPLY_CMD(c) (R164). -/
def execApplyCmd (c : Command) (s : State) : Host.Outcome State Fault Refusal := .next (applyCmd c s)

/-- COMMIT (R171). -/
def execCommit (s : State) : Host.Outcome State Fault Refusal := .next (commit s)

/-- REVERT (R172). -/
def execRevert (s : State) : Host.Outcome State Fault Refusal := .next (revert s)

/-- LOCK (R173). -/
def execLock (s : State) : Host.Outcome State Fault Refusal := .next (lock s)

/-- ROW_CLEAR (R174). -/
def execRowClear (s : State) : Host.Outcome State Fault Refusal := .next (rowClear s)

/-- SPAWN (R175). -/
def execSpawn (s : State) : Host.Outcome State Fault Refusal := .next (spawn s)

/-- COMPOSE_HANDOFF (R176). -/
def execComposeHandoff (s : State) : Host.Outcome State Fault Refusal := .next (composeHandoff s)

/-- SPEED_STEP (R177). -/
def execSpeedStep (s : State) : Host.Outcome State Fault Refusal := .next (speedStep s)

/-- START (R161). -/
def execStart (s : State) : Host.Outcome State Fault Refusal := .next (start s)

end Sys2Proof.Machine
end

