-- ==== Sys2Proof/Machine/Dispatch.lean ====
section
/-! DEFINITION. The meaning of every operation of the table: one arm per constructor of `Instr`. -/

namespace Sys2Proof.Machine

def exec (i : Instr) (s : State) : Host.Outcome State Fault Refusal :=
  match i with
  | .dinit slot => Sys2Proof.Machine.execDinit slot s
  | .setbuf slot => Sys2Proof.Machine.execSetbuf slot s
  | .wrow => Sys2Proof.Machine.execWrow s
  | .ginit => Sys2Proof.Machine.execGinit s
  | .gstart => Sys2Proof.Machine.execGstart s
  | .gtick => Sys2Proof.Machine.execGtick s
  | .gcmdNone => Sys2Proof.Machine.execGcmdNone s
  | .gcmdRot => Sys2Proof.Machine.execGcmdRot s
  | .gcmdLeft => Sys2Proof.Machine.execGcmdLeft s
  | .gcmdRight => Sys2Proof.Machine.execGcmdRight s
  | .gcmdDown => Sys2Proof.Machine.execGcmdDown s
  | .catLookup p o => Sys2Proof.Machine.execCatLookup p o s
  | .checkBounds p o x y => Sys2Proof.Machine.execCheckBounds p o x y s
  | .blit d p o x y => Sys2Proof.Machine.execBlit d p o x y s
  | .checkOverlap a b => Sys2Proof.Machine.execCheckOverlap a b s
  | .clearWork => Sys2Proof.Machine.execClearWork s
  | .applyCmd c => Sys2Proof.Machine.execApplyCmd c s
  | .commit => Sys2Proof.Machine.execCommit s
  | .revert => Sys2Proof.Machine.execRevert s
  | .lock => Sys2Proof.Machine.execLock s
  | .rowClear => Sys2Proof.Machine.execRowClear s
  | .spawn => Sys2Proof.Machine.execSpawn s
  | .composeHandoff => Sys2Proof.Machine.execComposeHandoff s
  | .speedStep => Sys2Proof.Machine.execSpeedStep s
  | .shiftOut w => Sys2Proof.Machine.execShiftOut w s
  | .swapCheck => Sys2Proof.Machine.execSwapCheck s
  | .start => Sys2Proof.Machine.execStart s

end Sys2Proof.Machine
end

