-- ==== Sys2Proof/Machine/Port.lean ====
section
/-! DEFINITION. The host operation port (00_scope.md R2, R6; 20_memory.md R55; 30_encoding.md R77): how the block takes one word.
The assembler forms of 30_encoding.md R79 and R80 stand here too, as the words they stand for. -/

namespace Sys2Proof.Machine

/-- The block takes one host word (R77): no effect while halted (R212); a word the decoder rejects raises its fault (R211); an
operation runs, with its own guards. -/
def acceptWord (op : Byte) (s : State) : Host.Outcome State Fault Refusal :=
  if s.fault ≠ 0 then .next s
  else
    match decodeHost op with
    | .ok i => exec i s
    | .reject c => .next (raiseFault c op s)

/-- One step of the block: take the next word from the port. With no word waiting, the block waits (R240). -/
def takeNext (s : State) : Host.Outcome State Fault Refusal :=
  match s.port with
  | [] => .next s
  | op :: rest => acceptWord op { s with port := rest }

/-- Put the host interface's word first on the port. -/
def present (s : State) (nbits w : Nat) : State :=
  match tableWord nbits w with
  | none => s
  | some op => { s with port := op :: s.port }

/-- A list of host operations as the words the host presents (R79). -/
def wordsOf (is : List Instr) : List Byte := is.map encode

/-- The pseudo-operations (R80). -/
inductive Pseudo
  | scan
  | boot (s : Slot)
  | step (c : Command)
  | wait (n : Nat)
deriving DecidableEq, Repr

/-- The exact expansion of a pseudo-operation (R80). -/
def expandPseudo : Pseudo → List Instr
  | .scan => List.replicate 8 .wrow
  | .boot s => [.dinit s, .ginit, .gstart]
  | .step c => [gcmd c, .gtick]
  | .wait n => List.replicate n .gtick

/-- An HS operand in assembler text (R79). -/
def asmSlot : String → Option Slot
  | "0" => some 0
  | "FB0" => some 0
  | "1" => some 1
  | "FB1" => some 1
  | _ => none

/-- An HC operand in assembler text (R79). -/
def asmCommand : String → Option Command
  | "NONE" => some .none
  | "ROT" => some .rotate
  | "LEFT" => some .left
  | "RIGHT" => some .right
  | "DOWN" => some .down
  | _ => none

/-- One operation from its tokens: the mnemonic, then the operand if any (R79). -/
def asmOperation : List String → Option Instr
  | ["DINIT", t] => (asmSlot t).map Instr.dinit
  | ["SETBUF", t] => (asmSlot t).map Instr.setbuf
  | ["WROW"] => some .wrow
  | ["GINIT"] => some .ginit
  | ["GSTART"] => some .gstart
  | ["GTICK"] => some .gtick
  | ["GCMD", t] => (asmCommand t).map gcmd
  | _ => none

/-- `OPERATION xN`: the operation N times in a row (R79). -/
def asmRepeated (tokens : List String) (n : Nat) : Option (List Instr) :=
  (asmOperation tokens).map (List.replicate n)

/-- A decimal number from its digits; none for no digits or another character. -/
def asmNumber (cs : List Char) : Option Nat :=
  if cs.isEmpty = false ∧ cs.all Char.isDigit = true then
    some (cs.foldl (fun n c => 10 * n + (c.toNat - 48)) 0)
  else none

/-- The count of a repetition token `xN` (R79). -/
def asmCount (token : List Char) : Option Nat :=
  match token with
  | 'x' :: cs => asmNumber cs
  | _ => none

/-- One character, read from the right, into the tokens of a line. -/
def asmTokenStep (c : Char) (ts : List (List Char)) : List (List Char) :=
  if c = ' ' then [] :: ts
  else
    match ts with
    | [] => [[c]]
    | t :: rest => (c :: t) :: rest

/-- The tokens of a line, the comment `; text` dropped (R79). -/
def asmTokens (line : List Char) : List (List Char) :=
  ((line.takeWhile fun c => c ≠ ';').foldr asmTokenStep [[]]).filter fun t => t ≠ []

/-- A pseudo-operation from its tokens (R80). -/
def asmPseudo (tokens : List (List Char)) : Option Pseudo :=
  match tokens.map String.ofList with
  | ["SCAN"] => some .scan
  | ["BOOT", t] => (asmSlot t).map Pseudo.boot
  | ["STEP", t] => (asmCommand t).map Pseudo.step
  | ["WAIT", _] => (asmNumber (tokens.getLastD [])).map Pseudo.wait
  | _ => none

/-- One line of assembler text: nothing, a pseudo-operation, an operation, or an operation with a count (R79, R80). -/
def asmLine (line : List Char) : Option (List Instr) :=
  match asmTokens line with
  | [] => some []
  | ts =>
    match asmPseudo ts with
    | some p => some (expandPseudo p)
    | none =>
      match asmCount (ts.getLastD []) with
      | some n => asmRepeated (ts.dropLast.map String.ofList) n
      | none => (asmOperation (ts.map String.ofList)).map fun i => [i]

/-- A program's lines as the words the host presents (R79). -/
def asmProgram (lines : List (List Char)) : Option (List Byte) :=
  match lines with
  | [] => some []
  | l :: rest =>
    match asmLine l, asmProgram rest with
    | some is, some ws => some (wordsOf is ++ ws)
    | _, _ => none

end Sys2Proof.Machine
end

