-- ==== Sys2Proof/Machine/Step.lean ====
section
/-! DEFINITION. One step of the machine, and the placing of a word where the next step takes it. The block has no program counter
and fetches no instructions (10_state.md R21): the next operation is the next word on the host port. -/

namespace Sys2Proof.Machine

/-- One step: the block performs the next host operation, whole (R9, R55). -/
def step (s : State) : Host.Outcome State Fault Refusal := takeNext s

/-- The host presents this word next. -/
def State.withFetchWord (s : State) (nbits w : Nat) : State := present s nbits w

end Sys2Proof.Machine
end

