-- ==== Sys2Proof/Machine/Chain.lean ====
section
/-! DEFINITION. The external shift-register chain as 60_exceptions.md R226 takes it to be: a host-side assumption driven by the pin
trace, not part of the block and not in State. LED_POLARITY's use is here too (00_scope.md R8). -/

namespace Sys2Proof.Machine

/-- The chain: two 8-bit serial-in, parallel-out registers in series, each with an output latch, and the last level seen on
each line (R226). -/
structure Chain where
  data : Bool
  sclk : Bool
  latch : Bool
  near : Byte
  far : Byte
  outNear : Byte
  outFar : Byte
deriving DecidableEq, Repr

/-- On a rising edge of SCLK: NEAR takes DATA in bit 0, FAR takes the bit that leaves NEAR[7] (R226). -/
def chainShift (c : Chain) : Chain :=
  { c with
    near := (c.near <<< 1) ||| (BitVec.ofBool c.data).setWidth 8
    far := (c.far <<< 1) ||| (BitVec.ofBool (c.near.getLsbD 7)).setWidth 8 }

/-- On a rising edge of LATCH: the outputs take the registers' contents (R226). -/
def chainLatch (c : Chain) : Chain := { c with outNear := c.near, outFar := c.far }

/-- One pin event at the chain: an edge is a change of the line's level. -/
def chainEvent (c : Chain) (e : PinEvent) : Chain :=
  match e.1 with
  | .data => { c with data := e.2 }
  | .sclk => if c.sclk = false ∧ e.2 = true then { chainShift c with sclk := true } else { c with sclk := e.2 }
  | .latch => if c.latch = false ∧ e.2 = true then { chainLatch c with latch := true } else { c with latch := e.2 }

/-- The chain after a pin trace. -/
def chainRun (c : Chain) (es : List PinEvent) : Chain := es.foldl chainEvent c

/-- The physical level that shows a logical pixel or row-select bit (R8 LED_POLARITY, R116). -/
def ledLevel (c : Config) (lit : Bool) : Bool := if lit then c.ledPolarity else !c.ledPolarity

end Sys2Proof.Machine
end

