-- ==== Sys2Proof/Safety.lean ====
section
/-! DEFINITION. The terms that claims are stated in: a safe state, the invariant, what an unspecified reset value may reach, the
tick's paths, footprints, and the host's agents and duties (00_scope.md R6; 60_exceptions.md R218; 70_reset_and_hazards.md R250). -/

namespace Sys2Proof.Machine

/-- No fault has occurred. A faulted state is never a successful end of a run (R212). -/
def Safe (s : State) : Prop := s.fault = 0

/-- Both parts are initialised and the block is not halted (R213). -/
def Ready (s : State) : Prop := s.fault = 0 ∧ s.dispReady = true ∧ s.gameReady = true

/-- `n` steps of the machine. -/
def runSteps (n : Nat) (s : State) : Host.Outcome State Fault Refusal := Host.Core.run Sys2Proof.core n s

/-- The state with exactly these host operations on the port. -/
def withHostOps (is : List Instr) (s : State) : State := { s with port := wordsOf is }

/-! ## Placements and the tick's paths -/

/-- The 8 rows a piece covers at a placement, clipped to the field: BLIT into an empty buffer (R144). -/
def pieceFrame (c : Config) (p : PieceId) (o : Orient) (x y : Coord) : Rows := blitRows (catRead c p o) x y Rows.zero

/-- The cell at row i, column k belongs to the footprint of an entry at (x, y) (R102). -/
def inFootprint (e : CatEntry) (x y : Coord) (i k : Nat) : Prop :=
  ∃ r, r ≤ 2 ∧ ∃ c, c < 8 ∧ (e.row r).getLsbD c = true ∧ i = y.toNat + r ∧ k = x.toNat + c

/-- The outcomes of step 3 of a tick (R170, R187). -/
inductive TickPath
  | commits
  | revertsSide
  | locks
  | gameOver
deriving DecidableEq, Repr

/-- The path a tick takes from a state (R170). -/
def tickPath (s : State) : TickPath :=
  if boundsOf s.cfg s.pid s.ori s.x s.y = .none ∧
      disjoint s.board (pieceFrame s.cfg s.pid s.ori s.x s.y) = true then .commits
  else if boundsOf s.cfg s.pid s.ori s.x s.y = .side then .revertsSide
  else if disjoint s.board (pieceFrame s.cfg s.pid s.gori s.gx s.gy) = true then .locks
  else .gameOver

/-! ## The invariant -/

/-- The level of a line as State holds it (R27). -/
def lineLevel (s : State) : Line → Bool
  | .data => s.data
  | .sclk => s.sclk
  | .latch => s.latch

/-- The last level a trace drives on a line (R27). -/
def lastLevel (l : Line) (es : List PinEvent) : Option Bool := ((es.filter fun e => e.1 = l).getLast?).map Prod.snd

/-- What holds between operations, for every reachable state. -/
structure BlockInv (s : State) : Prop where
  /-- FAULT holds 0 or a code of R210; 6 and 7 are never produced. -/
  faultLegal : s.fault.toNat ≤ 5
  /-- Once DINIT has run the lines are driven (R23, R27). -/
  readyDriven : s.dispReady = true → s.oe = true
  /-- Before DINIT nothing has been driven or latched (R37, R111). -/
  undrivenEmpty : s.oe = false → s.ltrace = [] ∧ s.ptrace = []
  /-- The clock lines idle low between operations (R111, R117). -/
  clocksIdle : s.oe = true → s.sclk = false ∧ s.latch = false
  /-- While OE = 1 every line holds the last level a rule drove on it (R27). -/
  linesHold : s.oe = true → ∀ l, lastLevel l s.ptrace = some (lineLevel s l)
  /-- The shadow placement is in bounds (R39). -/
  shadowInBounds : s.gameReady = true → boundsOf s.cfg s.pid s.gori s.gx s.gy = .none
  /-- No full row stays on the board, since every lock clears its full rows (90_conflicts.md C6). -/
  boardCleared : s.gameReady = true → ∀ i, s.board.get i ≠ fullRow
  /-- The transients hold no value between operations (R38). -/
  transientsIdle : s.br = none ∧ s.ovf = none ∧ s.entry = none

/-! ## Unspecified reset values -/

/-- Two states that agree on everything an operation may have written or R240 specifies: they may differ only where R240 leaves
a register unspecified and no operation has written it yet (R242). -/
structure AgreeWhereWritten (s t : State) : Prop where
  cfg : s.cfg = t.cfg
  port : s.port = t.port
  dispReady : s.dispReady = t.dispReady
  gameReady : s.gameReady = t.gameReady
  fault : s.fault = t.fault
  oe : s.oe = t.oe
  fb0 : s.fb0 = t.fb0
  fb1 : s.fb1 = t.fb1
  ltrace : s.ltrace = t.ltrace
  ptrace : s.ptrace = t.ptrace
  br : s.br = t.br
  ovf : s.ovf = t.ovf
  entry : s.entry = t.entry
  faultOp : s.fault ≠ 0 → s.faultOp = t.faultOp
  lines : s.oe = true → s.data = t.data ∧ s.sclk = t.sclk ∧ s.latch = t.latch
  scanner : s.dispReady = true → s.active = t.active ∧ s.cursor = t.cursor ∧ s.pendV = t.pendV
  pending : s.dispReady = true → s.pendV = true → s.pend = t.pend
  piece : s.gameReady = true → s.pid = t.pid ∧ s.x = t.x ∧ s.y = t.y ∧ s.ori = t.ori
  shadow : s.gameReady = true → s.gx = t.gx ∧ s.gy = t.gy ∧ s.gori = t.gori
  counters : s.gameReady = true → s.speed = t.speed ∧ s.level = t.level
  buffers : s.gameReady = true → s.board = t.board ∧ s.work = t.work

/-! ## The host's agents and duties -/

/-- The agents that issue operations (R6). -/
inductive Agent
  | refreshIssuer
  | tickSource
  | commandSource
  | bootSequence
deriving DecidableEq, Repr

/-- The operation is a GCMD (R163). -/
def isGcmd (i : Instr) : Bool :=
  i == .gcmdNone || i == .gcmdRot || i == .gcmdLeft || i == .gcmdRight || i == .gcmdDown

/-- What each agent issues (R6, R218). -/
def agentIssues (a : Agent) (i : Instr) : Bool :=
  match a with
  | .refreshIssuer => i == .wrow
  | .tickSource => i == .gtick
  | .commandSource => isGcmd i
  | .bootSequence => i == .dinit 0 || i == .dinit 1 || i == .ginit || i == .gstart

/-- The command duty of R250, from a point where `used` says whether the current period has had its GCMD. -/
def keepsCommandDuty (used : Bool) : List Instr → Bool
  | [] => true
  | i :: is =>
    if i = .gtick then keepsCommandDuty false is
    else if isGcmd i = true then !used && keepsCommandDuty true is
    else keepsCommandDuty used is

end Sys2Proof.Machine
end

