-- ==== Sys2Proof/Certificates/Slice0/Obligations.lean ====
section
/-! DEFINITION. The statements for the provers. Each docstring names the rule of spec/ that the statement formalises, or says that
it rests on an inference the spec marks as its own ("derived") or on a choice of this model, with the log entry. -/

open Sys2Proof Sys2Proof.Machine

/-! ## Decoding and encoding -/

/-- A few words written out from the encodings of R71, R72 and R75: 0001 000S, 0010 000S, 0011 0000, 0110 0000, 0111 0CCC. -/
def Obligations.SpecWordsDecode : Prop :=
  decodeHost 0b00010000#8 = .ok (.dinit 0) ∧ decodeHost 0b00010001#8 = .ok (.dinit 1) ∧
  decodeHost 0b00100001#8 = .ok (.setbuf 1) ∧ decodeHost 0b00110000#8 = .ok .wrow ∧
  decodeHost 0b01000000#8 = .ok .ginit ∧ decodeHost 0b01010000#8 = .ok .gstart ∧
  decodeHost 0b01100000#8 = .ok .gtick ∧ decodeHost 0b01110010#8 = .ok .gcmdLeft ∧
  decodeHost 0b01110101#8 = .reject .reservedCommand

/-- Every operation is read back from its word and the operands beside it, with every operand at every value; a host operation is
read back from its word alone by the host port's decoder. -/
def Obligations.DecodeReadsBackEveryEncoding : Prop :=
  ∀ i : Instr, decodeTable (encode i) (callArgs i) = .ok i ∧ (i.isHost = true → decodeHost (encode i) = .ok i)

/-- R75, the opcode map of the host port: the 13 valid words are exactly those listed, each is accepted as the one host operation
whose word it is, the other 243 are rejected, and the reserved opcodes 0x0 and 0x8 to 0xF are rejected as ILLEGAL_OPCODE. -/
def Obligations.HostPortAcceptsThirteenWords : Prop :=
  (∀ (op : Byte) (i : Instr), decodeHost op = .ok i ↔ i.isHost = true ∧ encode i = op) ∧
  ((List.range 256).filter fun n => match decodeHost (BitVec.ofNat 8 n) with
    | .ok _ => true
    | .reject _ => false) =
      [0x10, 0x11, 0x20, 0x21, 0x30, 0x40, 0x50, 0x60, 0x70, 0x71, 0x72, 0x73, 0x74] ∧
  (∀ op : Byte, op.extractLsb' 4 4 = 0x0 ∨ 0x8 ≤ op.extractLsb' 4 4 → decodeHost op = .reject .illegalOpcode)

/-- R76: the micro-operations' identifiers, and that none is a host word: a host word with OP[7] = 1 faults ILLEGAL_OPCODE. -/
def Obligations.MicroIdentifiersAreNoHostWords : Prop :=
  (∀ (p : PieceId) (o : Orient) (x y : Coord) (a b : BufId) (c : Command) (w : SerialWord),
    [Instr.catLookup p o, .checkBounds p o x y, .blit a p o x y, .checkOverlap a b, .clearWork, .applyCmd c, .commit, .revert,
      .lock, .rowClear, .spawn, .composeHandoff, .speedStep, .shiftOut w, .swapCheck, .start].map encode =
      [0x80, 0x81, 0x82, 0x83, 0x84, 0x85, 0x86, 0x87, 0x88, 0x89, 0x8A, 0x8B, 0x8C, 0x8D, 0x8E, 0x8F]) ∧
  (∀ (s : State) (op : Byte) (rest : List Byte), op.getLsbD 7 = true → s.fault = 0 → s.port = op :: rest →
    step s = .next { s with port := rest, fault := 1, faultOp := op })

/-! ## The host port, faults and the halt -/

/-- A step runs the decoded operation on the state whose port has moved past its word; with no word waiting the block waits. The
second clause is DEDUCED from R240 (log entry 2). -/
def Obligations.StepRunsDecodedOperation : Prop :=
  (∀ (s : State) (op : Byte) (rest : List Byte) (i : Instr), s.port = op :: rest → decodeHost op = .ok i → i.wf = true →
    step s = exec i { s with port := rest }) ∧
  (∀ s : State, s.port = [] → step s = .next s)

/-- R77: the checks on a word in their order, the first that fails deciding the fault; a word that passes them all is performed.
`opc` and `opd` are OP[7:4] and OP[3:0]. -/
def Obligations.WordsAreCheckedInOrder : Prop :=
  ∀ (s : State) (op : Byte) (rest : List Byte), s.port = op :: rest →
    let opc := op.extractLsb' 4 4
    let opd := op.extractLsb' 0 4
    let u : State := { s with port := rest }
    if s.fault ≠ 0 then step s = .next u
    else if opc = 0x0 ∨ 0x8 ≤ opc then step s = .next { u with fault := 1, faultOp := op }
    else if (opc = 0x1 ∨ opc = 0x2) ∧ opd.extractLsb' 1 3 ≠ 0 then step s = .next { u with fault := 2, faultOp := op }
    else if (opc = 0x3 ∨ opc = 0x4 ∨ opc = 0x5 ∨ opc = 0x6) ∧ opd ≠ 0 then
      step s = .next { u with fault := 2, faultOp := op }
    else if opc = 0x7 ∧ opd.getLsbD 3 = true then step s = .next { u with fault := 2, faultOp := op }
    else if opc = 0x7 ∧ 5 ≤ opd.extractLsb' 0 3 then step s = .next { u with fault := 3, faultOp := op }
    else if (opc = 0x2 ∨ opc = 0x3 ∨ opc = 0x6) ∧ s.dispReady = false then
      step s = .next { u with fault := 4, faultOp := op }
    else if (opc = 0x5 ∨ opc = 0x6 ∨ opc = 0x7) ∧ s.gameReady = false then
      step s = .next { u with fault := 5, faultOp := op }
    else ∃ i : Instr, i.isHost = true ∧ encode i = op ∧ step s = exec i u

/-- R211: raising a fault writes FAULT and FAULT_OP, and nothing else changes. -/
def Obligations.RaisingAFaultWritesOnlyFaultRegisters : Prop :=
  ∀ (c : FaultCode) (op : Byte) (s : State),
    raiseFault c op s = { s with
      fault := (match c with
        | .illegalOpcode => 1
        | .reservedOperand => 2
        | .reservedCommand => 3
        | .displayNotReady => 4
        | .gameNotReady => 5)
      faultOp := op }

/-- R212: while FAULT ≠ 0 every host word is accepted and changes nothing (only the word leaves the port), however the operation
reaches the block. -/
def Obligations.HaltedBlockIgnoresWords : Prop :=
  ∀ s : State, s.fault ≠ 0 →
    step s = .next { s with port := s.port.tail } ∧ ∀ i : Instr, i.isHost = true → exec i s = .next s

/-- R213: which host operation needs which ready flag, the display flag checked first (R214). -/
def Obligations.ReadinessGuardsFault : Prop :=
  ∀ s : State, s.fault = 0 →
    (s.dispReady = false →
      (∀ slot, exec (.setbuf slot) s = .next { s with fault := 4, faultOp := encode (.setbuf slot) }) ∧
      exec .wrow s = .next { s with fault := 4, faultOp := 0x30 } ∧
      exec .gtick s = .next { s with fault := 4, faultOp := 0x60 }) ∧
    (s.gameReady = false →
      exec .gstart s = .next { s with fault := 5, faultOp := 0x50 } ∧
      (∀ c, exec (gcmd c) s = .next { s with fault := 5, faultOp := 0x70 + (commandCode c).setWidth 8 }) ∧
      (s.dispReady = true → exec .gtick s = .next { s with fault := 5, faultOp := 0x60 })) ∧
    (∀ i : Instr, i.isHost = true →
      (i = .wrow ∨ (∃ slot, i = .setbuf slot) → s.dispReady = true → ∃ t, exec i s = .next t ∧ t.fault = 0) ∧
      (i = .gstart ∨ (∃ c, i = gcmd c) → s.gameReady = true → ∃ t, exec i s = .next t ∧ t.fault = 0) ∧
      (i = .gtick → s.dispReady = true → s.gameReady = true → ∃ t, exec i s = .next t ∧ t.fault = 0) ∧
      (i = .ginit ∨ (∃ slot, i = .dinit slot) → ∃ t, exec i s = .next t ∧ t.fault = 0))

/-- No operation and no step ends in a fault or a refusal of the host interface, refused words and halted states included. That is
this model's reading, DEDUCED from R211, R212 and R215 (log entry 11): a fault of the spec is a next state, and so is the halt. That
FAULT stays 0 once the checks of R77 pass, which is R215's own claim, is the last clause of `ReadinessGuardsFault`. -/
def Obligations.EveryOperationRunsToItsEnd : Prop :=
  (∀ (i : Instr) (s : State), ∃ t, exec i s = .next t) ∧ (∀ s : State, ∃ t, step s = .next t)

/-! ## Reset -/

/-- R240: what reset gives a value. The lines are not driven, both slots hold FB_INIT and both traces are empty. -/
def Obligations.ResetGivesSpecifiedValues : Prop :=
  State.reset.dispReady = false ∧ State.reset.gameReady = false ∧ State.reset.oe = false ∧ State.reset.fault = 0 ∧
  (∀ l, State.reset.pin l = none) ∧
  State.reset.fb 0 = State.reset.cfg.fbInit0 ∧ State.reset.fb 1 = State.reset.cfg.fbInit1 ∧
  State.reset.ltrace = [] ∧ State.reset.ptrace = []

/-- The invariant holds at reset. `BlockInv` gathers conditions the spec states or infers (see its docstrings); that reset meets it is
this model's claim. -/
def Obligations.ResetMeetsInvariant : Prop := BlockInv State.reset

/-! ## Display driver -/

/-- R111: DINIT S. -/
def Obligations.DinitInitialisesDisplay : Prop :=
  ∀ (S : Slot) (s : State),
    decodeHost (0x10#8 + S.setWidth 8) = .ok (.dinit S) ∧
    (∀ k : BitVec 4, k.extractLsb' 1 3 ≠ 0 → decodeHost (0x1#4 ++ k) = .reject .reservedOperand) ∧
    (s.fault = 0 → exec (.dinit S) s = .next { s with
      oe := true
      data := false
      sclk := false
      latch := false
      ptrace := s.ptrace ++ [(.data, false), (.sclk, false), (.latch, false)]
      active := S
      pendV := false
      cursor := 0
      dispReady := true })

/-- R112: SETBUF S. -/
def Obligations.SetbufQueuesSlot : Prop :=
  ∀ (S : Slot) (s : State),
    decodeHost (0x20#8 + S.setWidth 8) = .ok (.setbuf S) ∧
    (∀ k : BitVec 4, k.extractLsb' 1 3 ≠ 0 → decodeHost (0x2#4 ++ k) = .reject .reservedOperand) ∧
    (s.fault = 0 → s.dispReady = false →
      exec (.setbuf S) s = .next { s with fault := 4, faultOp := 0x20#8 + S.setWidth 8 }) ∧
    (s.fault = 0 → s.dispReady = true → exec (.setbuf S) s = .next { s with pend := S, pendV := true })

/-- R114: WROW shifts out the active slot's row at the cursor and the row-select byte, records the latched pair, then advances
the cursor and swaps at a wrap. The pin events are SHIFT_OUT's (R117, stated for itself). -/
def Obligations.WrowEmitsRowAndAdvances : Prop :=
  ∀ s : State,
    decodeHost 0x30 = .ok .wrow ∧
    (∀ k : BitVec 4, k ≠ 0 → decodeHost (0x3#4 ++ k) = .reject .reservedOperand) ∧
    (s.fault = 0 → s.dispReady = false → exec .wrow s = .next { s with fault := 4, faultOp := 0x30 }) ∧
    (s.fault = 0 → s.dispReady = true →
      let p := (if s.active = 0 then s.fb0 else s.fb1).get (rowIndex s.cursor)
      let r := s.cfg.rowsel.get (rowIndex s.cursor)
      exec .wrow s = .next { s with
        data := r.getLsbD 0
        sclk := false
        latch := false
        ptrace := s.ptrace ++ shiftEvents (p ++ r)
        ltrace := s.ltrace ++ [(p, r)]
        cursor := s.cursor + 1
        active := if s.cursor = 7 ∧ s.pendV = true then s.pend else s.active
        pendV := if s.cursor = 7 then false else s.pendV } ∧
      (shiftEvents (p ++ r)).length = 50)

/-- R117: SHIFT_OUT(w) drives 16 bits, most significant first, each as DATA and one SCLK pulse, then one LATCH pulse: 50 events. -/
def Obligations.ShiftOutDrivesSerialProtocol : Prop :=
  ∀ (w : SerialWord) (s : State),
    encode (.shiftOut w) = 0x8D ∧
    exec (.shiftOut w) s = .next { s with
      data := w.getLsbD 0
      sclk := false
      latch := false
      ptrace := s.ptrace ++
        ((List.range 16).flatMap (fun k => [(Line.data, w.getLsbD (15 - k)), (Line.sclk, true), (Line.sclk, false)]) ++
          [(Line.latch, true), (Line.latch, false)]) } ∧
    (shiftEvents w).length = 50

/-- R121: SWAP_CHECK advances the cursor mod 8 and, at the wrap with a pending slot, makes that slot active. -/
def Obligations.SwapCheckAdvancesCursor : Prop :=
  ∀ s : State,
    encode .swapCheck = 0x8E ∧
    (s.cursor.toNat < 7 → ∃ t, exec .swapCheck s = .next t ∧ t = { s with cursor := t.cursor } ∧
      t.cursor.toNat = s.cursor.toNat + 1) ∧
    (s.cursor = 7 → s.pendV = false → exec .swapCheck s = .next { s with cursor := 0 }) ∧
    (s.cursor = 7 → s.pendV = true →
      exec .swapCheck s = .next { s with cursor := 0, active := s.pend, pendV := false })

/-- The external chain of R226, driven by one SHIFT_OUT from idle clock lines, latches the pixel byte in the far register and the
row-select byte in the near one. The spec marks this as derived ("Latched value"); the chain is a host-side assumption (log
entry 7). -/
def Obligations.ChainLatchesSerialWord : Prop :=
  ∀ (c : Chain) (p r : Byte), c.sclk = false → c.latch = false →
    (chainRun c (shiftEvents (p ++ r))).outFar = p ∧ (chainRun c (shiftEvents (p ++ r))).outNear = r ∧
    (chainRun c (shiftEvents (p ++ r))).sclk = false ∧ (chainRun c (shiftEvents (p ++ r))).latch = false

/-- No tearing: during a scan that starts at row 0, with any host operations but DINIT between its WROWs, the rows emitted are rows
0, 1, 2, ... of the one slot that was active at its start, with that slot's contents at its start. The spec marks this as derived
("No tearing"). -/
def Obligations.ScanShowsOneWholeFrame : Prop :=
  ∀ (s : State) (is : List Instr), Ready s → s.cursor = 0 →
    (∀ i ∈ is, i.isHost = true ∧ ∀ slot, i ≠ .dinit slot) → (is.count .wrow) ≤ 8 →
    ∃ t, runSteps is.length (withHostOps is s) = .next t ∧
      t.ltrace = s.ltrace ++ (List.range (is.count .wrow)).map (fun k =>
        ((s.fb s.active).get (Fin.ofNat 8 k), s.cfg.rowsel.get (Fin.ofNat 8 k)))

/-- Newest frame wins, and swap latency: the frame a GTICK composes becomes active at the wrap, after exactly 8 - c further WROWs
where c is the cursor, when no later GTICK, SETBUF or DINIT comes between. The spec marks both as derived ("Newest frame wins",
"Swap latency"). -/
def Obligations.TickFrameShownAtNextWrap : Prop :=
  ∀ (s u : State) (is : List Instr), Ready s → exec .gtick s = .next u →
    (∀ i ∈ is, i = .wrow ∨ i = .ginit ∨ i = .gstart ∨ ∃ c, i = gcmd c) →
    is.count .wrow = 8 - u.cursor.toNat →
    ∃ t, runSteps is.length (withHostOps is u) = .next t ∧
      t.active = 1 - s.active ∧ t.pendV = false ∧ t.cursor = 0 ∧ t.fb t.active = u.fb (1 - s.active)

/-- Equal duty: over any host operations without DINIT, the row-select bytes emitted go round ROWSEL from the cursor on, so any 8
consecutive WROWs select each row once. The spec marks this as derived ("Equal duty"). -/
def Obligations.RowSelectBytesRotate : Prop :=
  ∀ (s : State) (is : List Instr), Ready s → (∀ i ∈ is, i.isHost = true ∧ ∀ slot, i ≠ .dinit slot) →
    ∃ t, runSteps is.length (withHostOps is s) = .next t ∧
      t.ltrace.map Prod.snd = s.ltrace.map Prod.snd ++ (List.range (is.count .wrow)).map (fun k =>
        s.cfg.rowsel.get (Fin.ofNat 8 (s.cursor.toNat + k)))

/-- A tick, command or queueing that preempts WROW between its shift-out and its swap check gives the same state and traces as the
same operation taken just before that WROW. The spec marks this as derived (20_memory.md section 3). -/
def Obligations.PreemptedWrowIsAtomicWrow : Prop :=
  ∀ (s u v : State) (i : Instr), Ready s → (i = .gtick ∨ (∃ c, i = gcmd c) ∨ ∃ slot, i = .setbuf slot) →
    exec i (scanRow s) = .next u → exec i s = .next v → exec .swapCheck u = exec .wrow v

/-- No step changes the slot that is being scanned, and only a GTICK word changes the other slot. The spec states the parts of this in
10_state.md section 3 and infers the whole ("No tearing"). -/
def Obligations.OnlyTickWritesInactiveSlot : Prop :=
  ∀ s t : State, step s = .next t →
    t.fb s.active = s.fb s.active ∧ (s.port.head? ≠ some 0x60 → t.fb0 = s.fb0 ∧ t.fb1 = s.fb1)

/-- The clean first frame: after DINIT s, GINIT, GSTART, GTICK, DINIT 1-s the active slot holds the composed spawn frame, at row 0 with
nothing pending, whatever FB_INIT was. The spec marks this as derived ("Clean first frame"). -/
def Obligations.CleanFirstFrameSequence : Prop :=
  ∀ (s : State) (slot : Slot), s.fault = 0 →
    ∃ t, runSteps 5 (withHostOps [.dinit slot, .ginit, .gstart, .gtick, .dinit (1 - slot)] s) = .next t ∧
      t.active = 1 - slot ∧ t.cursor = 0 ∧ t.pendV = false ∧ t.fault = 0 ∧
      t.fb t.active = pieceFrame s.cfg 0 0 3 0 ∧ t.board = Rows.zero ∧ t.pid = 0

/-! ## Catalog and collision engine -/

/-- R100: CAT_LOOKUP(p, o) reads the entry at index 4·p + o and writes no state (the entry it returns is a transient). -/
def Obligations.CatLookupReadsEntry : Prop :=
  ∀ (p : PieceId) (o : Orient) (s : State), encode (.catLookup p o) = 0x80 ∧
    ∃ e, s.cfg.catalog.entries[4 * p.toNat + o.toNat]? = some e ∧
      exec (.catLookup p o) s = .next { s with entry := some e } ∧
      1 ≤ e.w.toNat ∧ e.w.toNat ≤ 8 ∧ 1 ≤ e.h.toNat ∧ e.h.toNat ≤ 8

/-- R101: a catalog is refused at configuration time exactly where it breaks (a), (b), (c) or (d). The ROWSEL table is the default
one. -/
def Obligations.BrokenCatalogIsRefused : Prop :=
  ∀ (c : Catalog) (sr li : Byte) (pol : Bool) (f0 f1 : Rows),
    (Config.configure c sr li defaultRowsel pol f0 f1).isSome = true ↔
      (∀ e ∈ c.entries, (1 ≤ e.w.toNat ∧ 1 ≤ e.h.toNat) ∧ (e.w.toNat ≤ 8 ∧ e.h.toNat ≤ 8) ∧
        (∀ r, r < 3 → (∀ k, e.w.toNat ≤ k → (e.row r).getLsbD k = false) ∧ (e.h.toNat ≤ r → e.row r = 0))) ∧
      (∀ e ∈ [c.p0.o0, c.p1.o0], 3 + e.w.toNat ≤ 8 ∧ 0 + e.h.toNat ≤ 8)

/-- R141: CHECK_BOUNDS computes both sums on naturals; Side takes precedence; nothing but BR is written. -/
def Obligations.CheckBoundsClassifies : Prop :=
  ∀ (p : PieceId) (o : Orient) (x y : Coord) (s : State), encode (.checkBounds p o x y) = 0x81 ∧
    ∃ e, s.cfg.catalog.entries[4 * p.toNat + o.toNat]? = some e ∧
      (x.toNat + e.w.toNat > 8 → exec (.checkBounds p o x y) s = .next { s with br := some .side }) ∧
      (x.toNat + e.w.toNat ≤ 8 → y.toNat + e.h.toNat > 8 →
        exec (.checkBounds p o x y) s = .next { s with br := some .bottom }) ∧
      (x.toNat + e.w.toNat ≤ 8 → y.toNat + e.h.toNat ≤ 8 →
        exec (.checkBounds p o x y) s = .next { s with br := some .none })

/-- The wraparound invariant: a position of 9 to 15 is out of bounds whatever the piece, so a Left from 0 is classified Side. The spec
marks this as derived ("Wraparound invariant"). -/
def Obligations.WrappedPositionIsOutOfBounds : Prop :=
  ∀ (c : Config) (p : PieceId) (o : Orient) (x y : Coord),
    (9 ≤ x.toNat → boundsOf c p o x y = .side) ∧
    (9 ≤ y.toNat → boundsOf c p o x y ≠ .side → boundsOf c p o x y = .bottom) ∧
    boundsOf c p o (0 - 1) y = .side

/-- R144: BLIT ORs local row r, shifted left by x and cut to 8 bits, into row y + r of D; rows past the bottom are dropped, and no
other row or register changes. -/
def Obligations.BlitOrsShiftedRows : Prop :=
  ∀ (d : BufId) (p : PieceId) (o : Orient) (x y : Coord) (s : State), encode (.blit d p o x y) = 0x82 ∧
    ∃ e b, s.cfg.catalog.entries[4 * p.toNat + o.toNat]? = some e ∧
      exec (.blit d p o x y) s = .next (s.setBuf d b) ∧
      ∀ i : Fin 8, b.get i =
        if y.toNat ≤ i.val ∧ i.val ≤ y.toNat + 2 then
          (s.buf d).get i ||| BitVec.ofNat 8 ((e.row (i.val - y.toNat)).toNat * 2 ^ x.toNat)
        else (s.buf d).get i

/-- Footprint: BLIT sets exactly the footprint's cells that lie in the field, and where the placement passes the bounds check no cell of
the footprint lies outside. The second half is marked derived by the spec (40_catalog.md, 'Footprint'). -/
def Obligations.BlitWritesFootprint : Prop :=
  ∀ (c : Config) (p : PieceId) (o : Orient) (x y : Coord) (d : Rows),
    (∀ (i : Fin 8) (k : Nat), k < 8 →
      (((blitRows (catRead c p o) x y d).get i).getLsbD k = true ↔
        (d.get i).getLsbD k = true ∨ inFootprint (catRead c p o) x y i.val k)) ∧
    (boundsOf c p o x y = .none → ∀ i k, inFootprint (catRead c p o) x y i k → i < 8 ∧ k < 8)

/-- R145: CHECK_OVERLAP answers true exactly where every row pair is disjoint; nothing but OVF is written. -/
def Obligations.CheckOverlapTestsEveryRow : Prop :=
  ∀ (a b : BufId) (s : State), encode (.checkOverlap a b) = 0x83 ∧
    ((∀ i : Fin 8, (s.buf a).get i &&& (s.buf b).get i = 0) →
      exec (.checkOverlap a b) s = .next { s with ovf := some true }) ∧
    ((∃ i : Fin 8, (s.buf a).get i &&& (s.buf b).get i ≠ 0) →
      exec (.checkOverlap a b) s = .next { s with ovf := some false })

/-- Overlap laws: symmetric, false exactly where some cell is set in both, and the same test as the source's bitwise form. The spec
marks these as derived ("Overlap laws"). -/
def Obligations.OverlapIsSymmetricCellTest : Prop :=
  ∀ a b : Rows, disjoint a b = disjoint b a ∧
    (disjoint a b = false ↔ ∃ (i : Fin 8) (k : Nat), (a.get i).getLsbD k = true ∧ (b.get i).getLsbD k = true) ∧
    (disjoint a b = true ↔ ∀ i : Fin 8, ~~~(a.get i ^^^ b.get i) &&& a.get i = 0)

/-- R146: CLEAR_WORK writes 0x00 to every row of WORK and nothing else. -/
def Obligations.ClearWorkZeroesWork : Prop :=
  ∀ s : State, encode .clearWork = 0x84 ∧
    ∃ b : Rows, exec .clearWork s = .next { s with work := b } ∧ ∀ i, b.get i = 0x00

/-! ## Game state machine -/

/-- R160: GINIT. -/
def Obligations.GinitInitialisesGame : Prop :=
  ∀ s : State,
    decodeHost 0x40 = .ok .ginit ∧
    (∀ k : BitVec 4, k ≠ 0 → decodeHost (0x4#4 ++ k) = .reject .reservedOperand) ∧
    (s.fault = 0 → exec .ginit s = .next { s with
      board := ⟨0, 0, 0, 0, 0, 0, 0, 0⟩
      work := ⟨0, 0, 0, 0, 0, 0, 0, 0⟩
      pid := 1
      x := 3
      y := 0
      ori := 0
      gx := 3
      gy := 0
      gori := 0
      level := s.cfg.levelInit
      speed := s.cfg.speedReload
      gameReady := true })

/-- R161: START clears the board, resets LEVEL and SPEED, and spawns; WORK, the slots and the display registers are unchanged. -/
def Obligations.StartRestartsGame : Prop :=
  ∀ s : State, encode .start = 0x8F ∧
    exec .start s = .next { s with
      board := ⟨0, 0, 0, 0, 0, 0, 0, 0⟩
      level := s.cfg.levelInit
      speed := s.cfg.speedReload
      pid := 1 - s.pid
      x := 3
      y := 0
      ori := 0
      gx := 3
      gy := 0
      gori := 0 }

/-- R162: GSTART performs START; it needs GAME_READY and not DISP_READY. -/
def Obligations.GstartPerformsStart : Prop :=
  ∀ s : State,
    decodeHost 0x50 = .ok .gstart ∧
    (∀ k : BitVec 4, k ≠ 0 → decodeHost (0x5#4 ++ k) = .reject .reservedOperand) ∧
    (s.fault = 0 → s.gameReady = false → exec .gstart s = .next { s with fault := 5, faultOp := 0x50 }) ∧
    (s.fault = 0 → s.gameReady = true → exec .gstart s = .next { s with
      board := ⟨0, 0, 0, 0, 0, 0, 0, 0⟩
      level := s.cfg.levelInit
      speed := s.cfg.speedReload
      pid := 1 - s.pid
      x := 3
      y := 0
      ori := 0
      gx := 3
      gy := 0
      gori := 0 })

/-- R164: APPLY_CMD(c) changes at most one of X, Y and ORI, mod 16 or mod 4, and validates nothing. -/
def Obligations.ApplyCmdMovesWorkingPlacement : Prop :=
  ∀ s : State, (∀ c, encode (.applyCmd c) = 0x85) ∧
    exec (.applyCmd .none) s = .next s ∧
    exec (.applyCmd .rotate) s = .next { s with ori := BitVec.ofNat 2 ((s.ori.toNat + 1) % 4) } ∧
    exec (.applyCmd .down) s = .next { s with y := BitVec.ofNat 4 ((s.y.toNat + 1) % 16) } ∧
    exec (.applyCmd .left) s = .next { s with x := BitVec.ofNat 4 ((s.x.toNat + 15) % 16) } ∧
    exec (.applyCmd .right) s = .next { s with x := BitVec.ofNat 4 ((s.x.toNat + 1) % 16) }

/-- R163: GCMD C applies the command its field names (R72); C = 5, 6, 7 and OP[3] = 1 are rejected; it needs GAME_READY. -/
def Obligations.GcmdAppliesCommand : Prop :=
  ∀ s : State,
    (∀ c : Command, decodeHost (0x70#8 + (commandCode c).setWidth 8) = .ok (gcmd c)) ∧
    (∀ k : BitVec 3, 5 ≤ k → decodeHost (0x7#4 ++ 0#1 ++ k) = .reject .reservedCommand) ∧
    (∀ k : BitVec 3, decodeHost (0x7#4 ++ 1#1 ++ k) = .reject .reservedOperand) ∧
    (s.fault = 0 → s.gameReady = false → ∀ c,
      exec (gcmd c) s = .next { s with fault := 5, faultOp := 0x70#8 + (commandCode c).setWidth 8 }) ∧
    (s.fault = 0 → s.gameReady = true →
      exec .gcmdNone s = .next s ∧
      exec .gcmdRot s = .next { s with ori := s.ori + 1 } ∧
      exec .gcmdLeft s = .next { s with x := s.x - 1 } ∧
      exec .gcmdRight s = .next { s with x := s.x + 1 } ∧
      exec .gcmdDown s = .next { s with y := s.y + 1 })

/-- R171: COMMIT. -/
def Obligations.CommitRecordsPlacement : Prop :=
  ∀ s : State, encode .commit = 0x86 ∧ exec .commit s = .next { s with gx := s.x, gy := s.y, gori := s.ori }

/-- R172: REVERT restores all three of X, Y and ORI from the shadow and leaves in WORK exactly the piece at that placement. -/
def Obligations.RevertRestoresShadow : Prop :=
  ∀ s : State, encode .revert = 0x87 ∧
    ∃ b : Rows, exec .revert s = .next { s with x := s.gx, y := s.gy, ori := s.gori, work := b } ∧
      ∀ (i : Fin 8) (k : Nat), k < 8 →
        ((b.get i).getLsbD k = true ↔ inFootprint (catRead s.cfg s.pid s.gori) s.gx s.gy i.val k)

/-- R173: LOCK ORs WORK into BOARD, row by row. -/
def Obligations.LockMergesWork : Prop :=
  ∀ s : State, encode .lock = 0x88 ∧
    ∃ b : Rows, exec .lock s = .next { s with board := b } ∧ ∀ i, b.get i = s.board.get i ||| s.work.get i

/-- R174: ROW_CLEAR's single pass from row 0 to row 7: a full row is removed by moving the rows above it down by one, row 0 becomes
0x00 and LEVEL grows by one mod 256. -/
def Obligations.RowClearScansOnce : Prop :=
  ∀ s : State, encode .rowClear = 0x89 ∧
    ∃ (b : Fin 9 → Rows) (l : Fin 9 → Byte),
      b 0 = s.board ∧ l 0 = s.level ∧ exec .rowClear s = .next { s with board := b 8, level := l 8 } ∧
      ∀ i : Fin 8,
        ((b i.castSucc).get i = 0xFF →
          l i.succ = l i.castSucc + 1 ∧ (b i.succ).get 0 = 0x00 ∧
          ∀ j : Fin 7, (b i.succ).get j.succ =
            if j.succ ≤ i then (b i.castSucc).get j.castSucc else (b i.castSucc).get j.succ) ∧
        ((b i.castSucc).get i ≠ 0xFF → l i.succ = l i.castSucc ∧ b i.succ = b i.castSucc)

/-- Row clear is complete: the rows that are not 0xFF survive in order at the bottom, 0x00 rows fill the top, and LEVEL grows by the
number of full rows. The spec marks this as derived ("Row clear is complete"). -/
def Obligations.RowClearRemovesEveryFullRow : Prop :=
  ∀ s : State, ∃ t, exec .rowClear s = .next t ∧
    t.board.toList = List.replicate (s.board.toList.count 0xFF) 0x00 ++ s.board.toList.filter (· ≠ 0xFF) ∧
    t.level = s.level + BitVec.ofNat 8 (s.board.toList.count 0xFF)

/-- R175: SPAWN toggles the identity and sets both placements to the spawn placement. -/
def Obligations.SpawnTogglesPiece : Prop :=
  ∀ s : State, encode .spawn = 0x8A ∧
    exec .spawn s = .next { s with
      pid := s.pid ^^^ 1
      x := 3
      y := 0
      ori := 0
      gx := 3
      gy := 0
      gori := 0 }

/-- R176: COMPOSE_HANDOFF writes BOARD | WORK to every row of the slot 1 - ACTIVE and queues that slot; the active slot is unchanged. -/
def Obligations.ComposeHandoffQueuesFrame : Prop :=
  ∀ s : State, encode .composeHandoff = 0x8B ∧
    ∃ b : Rows, (∀ i, b.get i = s.board.get i ||| s.work.get i) ∧
      (s.active = 0 → exec .composeHandoff s = .next { s with fb1 := b, pend := 1, pendV := true }) ∧
      (s.active = 1 → exec .composeHandoff s = .next { s with fb0 := b, pend := 0, pendV := true })

/-- R177: SPEED_STEP decrements SPEED mod 256; when the result equals LEVEL it moves Y down by one mod 16 and reloads SPEED. -/
def Obligations.SpeedStepCountsDown : Prop :=
  ∀ s : State, encode .speedStep = 0x8C ∧
    ((s.speed.toNat + 255) % 256 = s.level.toNat →
      exec .speedStep s = .next { s with y := BitVec.ofNat 4 ((s.y.toNat + 1) % 16), speed := s.cfg.speedReload }) ∧
    ((s.speed.toNat + 255) % 256 ≠ s.level.toNat →
      exec .speedStep s = .next { s with speed := BitVec.ofNat 8 ((s.speed.toNat + 255) % 256) })

/-- Gravity period: with LEVEL = L and SPEED = SPEED_RELOAD = R, gravity first fires at SPEED_STEP number ((R - L - 1) mod 256) + 1, which
leaves SPEED = R again. The spec marks this as derived ("Gravity period"). -/
def Obligations.GravityPeriodLaw : Prop :=
  ∀ s : State, s.speed = s.cfg.speedReload →
    let period := (s.cfg.speedReload.toNat + 255 - s.level.toNat) % 256 + 1
    (∀ n, n < period → speedStep^[n] s = { s with speed := s.cfg.speedReload - BitVec.ofNat 8 n }) ∧
    speedStep^[period] s = { s with y := s.y + 1 }

/-- R170, the path that commits: the working placement is in bounds and free. -/
def Obligations.TickCommitsFreePlacement : Prop :=
  ∀ s : State, Ready s → boundsOf s.cfg s.pid s.ori s.x s.y = .none →
    disjoint s.board (pieceFrame s.cfg s.pid s.ori s.x s.y) = true →
    let w := pieceFrame s.cfg s.pid s.ori s.x s.y
    exec .gtick s = .next { s with
      work := w
      gx := s.x
      gy := s.y
      gori := s.ori
      fb0 := if s.active = 0 then s.fb0 else s.board.or w
      fb1 := if s.active = 0 then s.board.or w else s.fb1
      pend := 1 - s.active
      pendV := true
      y := if s.speed - 1 = s.level then s.y + 1 else s.y
      speed := if s.speed - 1 = s.level then s.cfg.speedReload else s.speed - 1
      br := none
      ovf := none
      entry := none }

/-- R170, the Side path: the placement reverts to the shadow, nothing locks. -/
def Obligations.TickRevertsSideViolation : Prop :=
  ∀ s : State, Ready s → boundsOf s.cfg s.pid s.ori s.x s.y = .side →
    let w := pieceFrame s.cfg s.pid s.gori s.gx s.gy
    exec .gtick s = .next { s with
      work := w
      x := s.gx
      ori := s.gori
      fb0 := if s.active = 0 then s.fb0 else s.board.or w
      fb1 := if s.active = 0 then s.board.or w else s.fb1
      pend := 1 - s.active
      pendV := true
      y := if s.speed - 1 = s.level then s.gy + 1 else s.gy
      speed := if s.speed - 1 = s.level then s.cfg.speedReload else s.speed - 1
      br := none
      ovf := none
      entry := none }

/-- R170, the locking path: a Bottom violation or an overlap, with the reverted placement free. The piece merges into the board at the
shadow placement, full rows are cleared (`clearRows`, R174), a new piece spawns, and the frame is the cleared board with the piece
at its pre-clear rows. -/
def Obligations.TickLocksBlockedPiece : Prop :=
  ∀ s : State, Ready s → boundsOf s.cfg s.pid s.ori s.x s.y ≠ .side →
    (boundsOf s.cfg s.pid s.ori s.x s.y = .bottom ∨
      disjoint s.board (pieceFrame s.cfg s.pid s.ori s.x s.y) = false) →
    disjoint s.board (pieceFrame s.cfg s.pid s.gori s.gx s.gy) = true →
    let w := pieceFrame s.cfg s.pid s.gori s.gx s.gy
    let cleared := clearRows (s.board.or w) s.level
    exec .gtick s = .next { s with
      board := cleared.1
      level := cleared.2
      work := w
      pid := s.pid ^^^ 1
      x := 3
      ori := 0
      gx := 3
      gy := 0
      gori := 0
      fb0 := if s.active = 0 then s.fb0 else cleared.1.or w
      fb1 := if s.active = 0 then cleared.1.or w else s.fb1
      pend := 1 - s.active
      pendV := true
      y := if s.speed - 1 = cleared.2 then 1 else 0
      speed := if s.speed - 1 = cleared.2 then s.cfg.speedReload else s.speed - 1
      br := none
      ovf := none
      entry := none }

/-- R170, the game-over path: the reverted placement overlaps too, so START runs inside the tick; the frame shows the failed piece on
an empty board. -/
def Obligations.TickRestartsAtGameOver : Prop :=
  ∀ s : State, Ready s → boundsOf s.cfg s.pid s.ori s.x s.y ≠ .side →
    (boundsOf s.cfg s.pid s.ori s.x s.y = .bottom ∨
      disjoint s.board (pieceFrame s.cfg s.pid s.ori s.x s.y) = false) →
    disjoint s.board (pieceFrame s.cfg s.pid s.gori s.gx s.gy) = false →
    let w := pieceFrame s.cfg s.pid s.gori s.gx s.gy
    exec .gtick s = .next { s with
      board := Rows.zero
      level := s.cfg.levelInit
      work := w
      pid := s.pid ^^^ 1
      x := 3
      ori := 0
      gx := 3
      gy := 0
      gori := 0
      fb0 := if s.active = 0 then s.fb0 else w
      fb1 := if s.active = 0 then w else s.fb1
      pend := 1 - s.active
      pendV := true
      y := if s.cfg.speedReload - 1 = s.cfg.levelInit then 1 else 0
      speed := if s.cfg.speedReload - 1 = s.cfg.levelInit then s.cfg.speedReload else s.cfg.speedReload - 1
      br := none
      ovf := none
      entry := none }

/-- After a tick the working placement is the shadow, moved down by one exactly where gravity fired. The spec marks this as derived
(10_state.md section 5). -/
def Obligations.TickLeavesShadowPlusGravity : Prop :=
  ∀ s t : State, Ready s → exec .gtick s = .next t →
    t.x = t.gx ∧ t.ori = t.gori ∧ (t.y = t.gy ∨ (t.y = t.gy + 1 ∧ t.speed = t.cfg.speedReload))

/-- Accumulated commands: any commands between two ticks only move the working placement; if the next tick finds its final value a Side
violation, all of them are undone at once and nothing locks. The spec marks this as derived ("Accumulated commands", "Side reversion
discards moves"). -/
def Obligations.SideReversionUndoesEveryCommand : Prop :=
  ∀ (s : State) (cs : List Command), Ready s →
    ∃ u, runSteps cs.length (withHostOps (cs.map gcmd) s) = .next u ∧
      u = { s with port := [], x := u.x, y := u.y, ori := u.ori } ∧
      (boundsOf u.cfg u.pid u.ori u.x u.y = .side →
        ∃ t, exec .gtick u = .next t ∧ t.x = s.gx ∧ t.ori = s.gori ∧ (t.y = s.gy ∨ t.y = s.gy + 1) ∧
          t.board = s.board ∧ t.pid = s.pid ∧ t.level = s.level)

/-- Under the duty of at most one GCMD between two ticks, the working placement stays within X ∈ 0..8 or 15 and Y ≤ 9. The spec marks this
as derived ("Bounds on the working placement"); `BlockInv` is the premise that rules out unreachable shadows. -/
def Obligations.OneCommandKeepsPlacementNear : Prop :=
  ∀ (s t u : State) (c : Command), Ready s → BlockInv s → exec .gtick s = .next t → exec (gcmd c) t = .next u →
    ∀ v ∈ [t, u], (v.x.toNat ≤ 8 ∨ v.x.toNat = 15) ∧ v.y.toNat ≤ 9

/-- The frame of a locking tick in which no row is full: it equals the new board. The spec marks this as derived ("Frame of a locking
tick"). -/
def Obligations.LockFrameIsBoardWithoutClear : Prop :=
  ∀ s t : State, Ready s → tickPath s = .locks → exec .gtick s = .next t →
    (∀ i, s.board.get i ||| (pieceFrame s.cfg s.pid s.gori s.gx s.gy).get i ≠ 0xFF) →
    t.fb (1 - s.active) = t.board ∧ t.level = s.level

/-- Every tick takes one of the four paths, and the board, the identity and the shadow tell which: only a lock or a game over changes the
board or toggles the identity. The spec marks the summary as derived ("State machine summary"). -/
def Obligations.TickPathsChangeOnlyTheirState : Prop :=
  ∀ s t : State, Ready s → exec .gtick s = .next t →
    t.gameReady = true ∧ t.fault = 0 ∧
    (tickPath s = .commits → t.board = s.board ∧ t.pid = s.pid ∧ (t.gx, t.gy, t.gori) = (s.x, s.y, s.ori)) ∧
    (tickPath s = .revertsSide → t.board = s.board ∧ t.pid = s.pid ∧ (t.gx, t.gy, t.gori) = (s.gx, s.gy, s.gori)) ∧
    (tickPath s = .locks → t.pid ≠ s.pid ∧ (t.gx, t.gy, t.gori) = (3, 0, 0)) ∧
    (tickPath s = .gameOver → t.board = Rows.zero ∧ t.pid ≠ s.pid ∧ (t.gx, t.gy, t.gori) = (3, 0, 0))

/-! ## The whole machine -/

/-- DINIT and GINIT write disjoint state, so either order gives the same state. The spec marks this as derived
(70_reset_and_hazards.md section 2). -/
def Obligations.DinitAndGinitCommute : Prop :=
  ∀ (s u v : State) (slot : Slot), s.fault = 0 → exec (.dinit slot) s = .next u → exec .ginit s = .next v →
    exec .ginit u = exec (.dinit slot) v

/-- No step changes the configuration: R42 says it of the catalog, R243 that the other parameters are fixed when the model is built.
The traces only grow (R37). FAULT once set keeps its value and FAULT_OP with it (R36, R212). No rule clears a ready flag (R23, R28),
and a step is no reset (log entry 14). -/
def Obligations.StepKeepsCatalogTracesAndFault : Prop :=
  ∀ s t : State, step s = .next t →
    t.cfg = s.cfg ∧ s.ltrace <+: t.ltrace ∧ s.ptrace <+: t.ptrace ∧
    (s.fault ≠ 0 → t.fault = s.fault ∧ t.faultOp = s.faultOp) ∧
    (s.dispReady = true → t.dispReady = true) ∧ (s.gameReady = true → t.gameReady = true)

/-- Every step keeps the invariant, from every state that meets it: the shadow placement stays in bounds, no full row stays on the board,
the lines hold the last driven levels, FAULT stays a legal code and the transients stay empty. The spec states or infers each part
(see `BlockInv`); that every step keeps them together is this model's claim. -/
def Obligations.StepKeepsInvariant : Prop :=
  ∀ s t : State, BlockInv s → step s = .next t → BlockInv t

/-- No unspecified register is ever observed: two states that agree on everything written or specified step to two states that agree
again, so the values State.reset gives the unspecified registers (log entry 3) never show. The spec marks this as derived ("State
after reset"). -/
def Obligations.UnspecifiedRegistersNeverShow : Prop :=
  ∀ s t : State, AgreeWhereWritten s t →
    ∃ s' t', step s = .next s' ∧ step t = .next t' ∧ AgreeWhereWritten s' t'
end

