-- ==== Sys2Proof/Laws/Operands.lean ====
section
/-! SUPPORT. The laws of buffers and slots: a read after a write gives the value written, and a write leaves every other row and every
other slot alone. -/

namespace Sys2Proof

/-- Reading row i of a buffer given by a function. -/
@[simp] theorem Rows.get_ofFn (f : Fin 8 → Byte) (i : Fin 8) : (Rows.ofFn f).get i = f i := by
  match i with
  | 0 => rfl
  | 1 => rfl
  | 2 => rfl
  | 3 => rfl
  | 4 => rfl
  | 5 => rfl
  | 6 => rfl
  | 7 => rfl

/-- Two buffers with equal rows are equal. -/
theorem Rows.ext_get {a b : Rows} (h : ∀ i, a.get i = b.get i) : a = b := by
  cases a
  cases b
  have h0 := h 0
  have h1 := h 1
  have h2 := h 2
  have h3 := h 3
  have h4 := h 4
  have h5 := h 5
  have h6 := h 6
  have h7 := h 7
  simp only [Rows.get] at h0 h1 h2 h3 h4 h5 h6 h7
  subst h0 h1 h2 h3 h4 h5 h6 h7
  rfl

/-- A buffer is the buffer of its rows. -/
@[simp] theorem Rows.ofFn_get (b : Rows) : Rows.ofFn b.get = b := Rows.ext_get fun i => Rows.get_ofFn b.get i

@[simp] theorem Rows.get_zero (i : Fin 8) : Rows.zero.get i = 0 := by
  revert i
  decide

theorem Rows.get_set (b : Rows) (i j : Fin 8) (v : Byte) : (b.set i v).get j = if j = i then v else b.get j :=
  Rows.get_ofFn _ j

@[simp] theorem Rows.get_set_same (b : Rows) (i : Fin 8) (v : Byte) : (b.set i v).get i = v := by
  simp [Rows.get_set]

theorem Rows.get_set_other (b : Rows) {i j : Fin 8} (v : Byte) (h : j ≠ i) : (b.set i v).get j = b.get j := by
  simp [Rows.get_set, h]

@[simp] theorem Rows.get_or (a b : Rows) (i : Fin 8) : (a.or b).get i = a.get i ||| b.get i := Rows.get_ofFn _ i

@[simp] theorem Rows.zero_or (b : Rows) : Rows.zero.or b = b := Rows.ext_get fun i => by simp

@[simp] theorem Rows.or_zero (b : Rows) : b.or Rows.zero = b := Rows.ext_get fun i => by simp

/-- What `orRow` does: row k changes if it exists, and no other row does. -/
theorem Rows.get_orRow (b : Rows) (k : Nat) (v : Byte) (i : Fin 8) :
    (b.orRow k v).get i = if i.val = k then b.get i ||| v else b.get i := by
  unfold Rows.orRow
  split
  · rename_i hk
    by_cases hi : i = ⟨k, hk⟩
    · subst hi
      simp
    · have hne : i.val ≠ k := fun h => hi (Fin.ext h)
      rw [Rows.get_set_other _ _ hi, if_neg hne]
  · have hne : i.val ≠ k := by omega
    rw [if_neg hne]

end Sys2Proof

namespace Sys2Proof.Machine

/-- A slot index is 0 or 1. -/
theorem slot_cases (t : Slot) : t = 0 ∨ t = 1 := by
  revert t
  decide

@[simp] theorem otherSlot_zero : otherSlot 0#1 = 1#1 := by decide

@[simp] theorem otherSlot_one : otherSlot 1#1 = 0#1 := by decide

theorem otherSlot_ne (t : Slot) : otherSlot t ≠ t := by
  revert t
  decide

@[simp] theorem fb_zero (s : State) : s.fb 0#1 = s.fb0 := rfl

@[simp] theorem fb_one (s : State) : s.fb 1#1 = s.fb1 := rfl

/-- Reading the slot just written. -/
@[simp] theorem fb_setFb_same (s : State) (t : Slot) (b : Rows) : (s.setFb t b).fb t = b := by
  rcases slot_cases t with rfl | rfl <;> rfl

/-- Writing one slot leaves the other alone. -/
theorem fb_setFb_other (s : State) {t u : Slot} (b : Rows) (h : u ≠ t) : (s.setFb t b).fb u = s.fb u := by
  rcases slot_cases t with rfl | rfl <;> rcases slot_cases u with rfl | rfl <;> first | rfl | exact absurd rfl h

/-- Reading the buffer just written. -/
@[simp] theorem buf_setBuf_same (s : State) (d : BufId) (b : Rows) : (s.setBuf d b).buf d = b := by
  cases d with
  | board => rfl
  | work => rfl
  | fb t => rcases slot_cases t with rfl | rfl <;> rfl

/-- Writing one buffer leaves the others alone. -/
theorem buf_setBuf_other (s : State) {d e : BufId} (b : Rows) (h : e ≠ d) : (s.setBuf d b).buf e = s.buf e := by
  cases d with
  | board => cases e <;> first | rfl | exact absurd rfl h
  | work => cases e <;> first | rfl | exact absurd rfl h
  | fb t =>
    cases e with
    | board => rfl
    | work => rfl
    | fb u =>
      rcases slot_cases t with rfl | rfl <;> rcases slot_cases u with rfl | rfl <;> first | rfl | exact absurd rfl h

/-- Writing WORK through its name is the update of the field. -/
theorem setBuf_work (s : State) (b : Rows) : s.setBuf .work b = { s with work := b } := rfl

/-- The catalog entry by its index (R58). -/
theorem catRead_entries (c : Config) (p : PieceId) (o : Orient) :
    c.catalog.entries[4 * p.toNat + o.toNat]? = some (catRead c p o) := by
  have hp : p = 0 ∨ p = 1 := slot_cases p
  have ho : o = 0 ∨ o = 1 ∨ o = 2 ∨ o = 3 := by
    revert o
    decide
  rcases hp with rfl | rfl <;> rcases ho with rfl | rfl | rfl | rfl <;> rfl

end Sys2Proof.Machine
end

