-- ==== Sys2Proof/Laws/State.lean ====
section
/-! SUPPORT. For each named update of the state, one lemma per field, true by rfl, so that no proof unfolds a record update. -/

namespace Sys2Proof.Machine

/-! ### drive -/

@[simp] theorem State.drive_cfg (s : State) (l : Line) (v : Bool) : (s.drive l v).cfg = s.cfg := rfl
@[simp] theorem State.drive_port (s : State) (l : Line) (v : Bool) : (s.drive l v).port = s.port := rfl
@[simp] theorem State.drive_dispReady (s : State) (l : Line) (v : Bool) : (s.drive l v).dispReady = s.dispReady := rfl
@[simp] theorem State.drive_active (s : State) (l : Line) (v : Bool) : (s.drive l v).active = s.active := rfl
@[simp] theorem State.drive_pendV (s : State) (l : Line) (v : Bool) : (s.drive l v).pendV = s.pendV := rfl
@[simp] theorem State.drive_pend (s : State) (l : Line) (v : Bool) : (s.drive l v).pend = s.pend := rfl
@[simp] theorem State.drive_cursor (s : State) (l : Line) (v : Bool) : (s.drive l v).cursor = s.cursor := rfl
@[simp] theorem State.drive_oe (s : State) (l : Line) (v : Bool) : (s.drive l v).oe = s.oe := rfl
@[simp] theorem State.drive_data (s : State) (l : Line) (v : Bool) : (s.drive l v).data = (if l = .data then v else s.data) := rfl
@[simp] theorem State.drive_sclk (s : State) (l : Line) (v : Bool) : (s.drive l v).sclk = (if l = .sclk then v else s.sclk) := rfl
@[simp] theorem State.drive_latch (s : State) (l : Line) (v : Bool) : (s.drive l v).latch = (if l = .latch then v else s.latch) := rfl
@[simp] theorem State.drive_gameReady (s : State) (l : Line) (v : Bool) : (s.drive l v).gameReady = s.gameReady := rfl
@[simp] theorem State.drive_pid (s : State) (l : Line) (v : Bool) : (s.drive l v).pid = s.pid := rfl
@[simp] theorem State.drive_x (s : State) (l : Line) (v : Bool) : (s.drive l v).x = s.x := rfl
@[simp] theorem State.drive_y (s : State) (l : Line) (v : Bool) : (s.drive l v).y = s.y := rfl
@[simp] theorem State.drive_ori (s : State) (l : Line) (v : Bool) : (s.drive l v).ori = s.ori := rfl
@[simp] theorem State.drive_gx (s : State) (l : Line) (v : Bool) : (s.drive l v).gx = s.gx := rfl
@[simp] theorem State.drive_gy (s : State) (l : Line) (v : Bool) : (s.drive l v).gy = s.gy := rfl
@[simp] theorem State.drive_gori (s : State) (l : Line) (v : Bool) : (s.drive l v).gori = s.gori := rfl
@[simp] theorem State.drive_speed (s : State) (l : Line) (v : Bool) : (s.drive l v).speed = s.speed := rfl
@[simp] theorem State.drive_level (s : State) (l : Line) (v : Bool) : (s.drive l v).level = s.level := rfl
@[simp] theorem State.drive_faultOp (s : State) (l : Line) (v : Bool) : (s.drive l v).faultOp = s.faultOp := rfl
@[simp] theorem State.drive_fault (s : State) (l : Line) (v : Bool) : (s.drive l v).fault = s.fault := rfl
@[simp] theorem State.drive_board (s : State) (l : Line) (v : Bool) : (s.drive l v).board = s.board := rfl
@[simp] theorem State.drive_work (s : State) (l : Line) (v : Bool) : (s.drive l v).work = s.work := rfl
@[simp] theorem State.drive_fb0 (s : State) (l : Line) (v : Bool) : (s.drive l v).fb0 = s.fb0 := rfl
@[simp] theorem State.drive_fb1 (s : State) (l : Line) (v : Bool) : (s.drive l v).fb1 = s.fb1 := rfl
@[simp] theorem State.drive_br (s : State) (l : Line) (v : Bool) : (s.drive l v).br = s.br := rfl
@[simp] theorem State.drive_ovf (s : State) (l : Line) (v : Bool) : (s.drive l v).ovf = s.ovf := rfl
@[simp] theorem State.drive_entry (s : State) (l : Line) (v : Bool) : (s.drive l v).entry = s.entry := rfl
@[simp] theorem State.drive_ltrace (s : State) (l : Line) (v : Bool) : (s.drive l v).ltrace = s.ltrace := rfl
@[simp] theorem State.drive_ptrace (s : State) (l : Line) (v : Bool) : (s.drive l v).ptrace = s.ptrace ++ [(l, v)] := rfl

/-! ### emit -/

@[simp] theorem State.emit_cfg (s : State) (p r : Byte) : (s.emit p r).cfg = s.cfg := rfl
@[simp] theorem State.emit_port (s : State) (p r : Byte) : (s.emit p r).port = s.port := rfl
@[simp] theorem State.emit_dispReady (s : State) (p r : Byte) : (s.emit p r).dispReady = s.dispReady := rfl
@[simp] theorem State.emit_active (s : State) (p r : Byte) : (s.emit p r).active = s.active := rfl
@[simp] theorem State.emit_pendV (s : State) (p r : Byte) : (s.emit p r).pendV = s.pendV := rfl
@[simp] theorem State.emit_pend (s : State) (p r : Byte) : (s.emit p r).pend = s.pend := rfl
@[simp] theorem State.emit_cursor (s : State) (p r : Byte) : (s.emit p r).cursor = s.cursor := rfl
@[simp] theorem State.emit_oe (s : State) (p r : Byte) : (s.emit p r).oe = s.oe := rfl
@[simp] theorem State.emit_data (s : State) (p r : Byte) : (s.emit p r).data = s.data := rfl
@[simp] theorem State.emit_sclk (s : State) (p r : Byte) : (s.emit p r).sclk = s.sclk := rfl
@[simp] theorem State.emit_latch (s : State) (p r : Byte) : (s.emit p r).latch = s.latch := rfl
@[simp] theorem State.emit_gameReady (s : State) (p r : Byte) : (s.emit p r).gameReady = s.gameReady := rfl
@[simp] theorem State.emit_pid (s : State) (p r : Byte) : (s.emit p r).pid = s.pid := rfl
@[simp] theorem State.emit_x (s : State) (p r : Byte) : (s.emit p r).x = s.x := rfl
@[simp] theorem State.emit_y (s : State) (p r : Byte) : (s.emit p r).y = s.y := rfl
@[simp] theorem State.emit_ori (s : State) (p r : Byte) : (s.emit p r).ori = s.ori := rfl
@[simp] theorem State.emit_gx (s : State) (p r : Byte) : (s.emit p r).gx = s.gx := rfl
@[simp] theorem State.emit_gy (s : State) (p r : Byte) : (s.emit p r).gy = s.gy := rfl
@[simp] theorem State.emit_gori (s : State) (p r : Byte) : (s.emit p r).gori = s.gori := rfl
@[simp] theorem State.emit_speed (s : State) (p r : Byte) : (s.emit p r).speed = s.speed := rfl
@[simp] theorem State.emit_level (s : State) (p r : Byte) : (s.emit p r).level = s.level := rfl
@[simp] theorem State.emit_faultOp (s : State) (p r : Byte) : (s.emit p r).faultOp = s.faultOp := rfl
@[simp] theorem State.emit_fault (s : State) (p r : Byte) : (s.emit p r).fault = s.fault := rfl
@[simp] theorem State.emit_board (s : State) (p r : Byte) : (s.emit p r).board = s.board := rfl
@[simp] theorem State.emit_work (s : State) (p r : Byte) : (s.emit p r).work = s.work := rfl
@[simp] theorem State.emit_fb0 (s : State) (p r : Byte) : (s.emit p r).fb0 = s.fb0 := rfl
@[simp] theorem State.emit_fb1 (s : State) (p r : Byte) : (s.emit p r).fb1 = s.fb1 := rfl
@[simp] theorem State.emit_br (s : State) (p r : Byte) : (s.emit p r).br = s.br := rfl
@[simp] theorem State.emit_ovf (s : State) (p r : Byte) : (s.emit p r).ovf = s.ovf := rfl
@[simp] theorem State.emit_entry (s : State) (p r : Byte) : (s.emit p r).entry = s.entry := rfl
@[simp] theorem State.emit_ltrace (s : State) (p r : Byte) : (s.emit p r).ltrace = s.ltrace ++ [(p, r)] := rfl
@[simp] theorem State.emit_ptrace (s : State) (p r : Byte) : (s.emit p r).ptrace = s.ptrace := rfl

/-! ### setFb -/

@[simp] theorem State.setFb_cfg (s : State) (t : Slot) (b : Rows) : (s.setFb t b).cfg = s.cfg := rfl
@[simp] theorem State.setFb_port (s : State) (t : Slot) (b : Rows) : (s.setFb t b).port = s.port := rfl
@[simp] theorem State.setFb_dispReady (s : State) (t : Slot) (b : Rows) : (s.setFb t b).dispReady = s.dispReady := rfl
@[simp] theorem State.setFb_active (s : State) (t : Slot) (b : Rows) : (s.setFb t b).active = s.active := rfl
@[simp] theorem State.setFb_pendV (s : State) (t : Slot) (b : Rows) : (s.setFb t b).pendV = s.pendV := rfl
@[simp] theorem State.setFb_pend (s : State) (t : Slot) (b : Rows) : (s.setFb t b).pend = s.pend := rfl
@[simp] theorem State.setFb_cursor (s : State) (t : Slot) (b : Rows) : (s.setFb t b).cursor = s.cursor := rfl
@[simp] theorem State.setFb_oe (s : State) (t : Slot) (b : Rows) : (s.setFb t b).oe = s.oe := rfl
@[simp] theorem State.setFb_data (s : State) (t : Slot) (b : Rows) : (s.setFb t b).data = s.data := rfl
@[simp] theorem State.setFb_sclk (s : State) (t : Slot) (b : Rows) : (s.setFb t b).sclk = s.sclk := rfl
@[simp] theorem State.setFb_latch (s : State) (t : Slot) (b : Rows) : (s.setFb t b).latch = s.latch := rfl
@[simp] theorem State.setFb_gameReady (s : State) (t : Slot) (b : Rows) : (s.setFb t b).gameReady = s.gameReady := rfl
@[simp] theorem State.setFb_pid (s : State) (t : Slot) (b : Rows) : (s.setFb t b).pid = s.pid := rfl
@[simp] theorem State.setFb_x (s : State) (t : Slot) (b : Rows) : (s.setFb t b).x = s.x := rfl
@[simp] theorem State.setFb_y (s : State) (t : Slot) (b : Rows) : (s.setFb t b).y = s.y := rfl
@[simp] theorem State.setFb_ori (s : State) (t : Slot) (b : Rows) : (s.setFb t b).ori = s.ori := rfl
@[simp] theorem State.setFb_gx (s : State) (t : Slot) (b : Rows) : (s.setFb t b).gx = s.gx := rfl
@[simp] theorem State.setFb_gy (s : State) (t : Slot) (b : Rows) : (s.setFb t b).gy = s.gy := rfl
@[simp] theorem State.setFb_gori (s : State) (t : Slot) (b : Rows) : (s.setFb t b).gori = s.gori := rfl
@[simp] theorem State.setFb_speed (s : State) (t : Slot) (b : Rows) : (s.setFb t b).speed = s.speed := rfl
@[simp] theorem State.setFb_level (s : State) (t : Slot) (b : Rows) : (s.setFb t b).level = s.level := rfl
@[simp] theorem State.setFb_faultOp (s : State) (t : Slot) (b : Rows) : (s.setFb t b).faultOp = s.faultOp := rfl
@[simp] theorem State.setFb_fault (s : State) (t : Slot) (b : Rows) : (s.setFb t b).fault = s.fault := rfl
@[simp] theorem State.setFb_board (s : State) (t : Slot) (b : Rows) : (s.setFb t b).board = s.board := rfl
@[simp] theorem State.setFb_work (s : State) (t : Slot) (b : Rows) : (s.setFb t b).work = s.work := rfl
@[simp] theorem State.setFb_fb0 (s : State) (t : Slot) (b : Rows) : (s.setFb t b).fb0 = (if t = 0 then b else s.fb0) := rfl
@[simp] theorem State.setFb_fb1 (s : State) (t : Slot) (b : Rows) : (s.setFb t b).fb1 = (if t = 0 then s.fb1 else b) := rfl
@[simp] theorem State.setFb_br (s : State) (t : Slot) (b : Rows) : (s.setFb t b).br = s.br := rfl
@[simp] theorem State.setFb_ovf (s : State) (t : Slot) (b : Rows) : (s.setFb t b).ovf = s.ovf := rfl
@[simp] theorem State.setFb_entry (s : State) (t : Slot) (b : Rows) : (s.setFb t b).entry = s.entry := rfl
@[simp] theorem State.setFb_ltrace (s : State) (t : Slot) (b : Rows) : (s.setFb t b).ltrace = s.ltrace := rfl
@[simp] theorem State.setFb_ptrace (s : State) (t : Slot) (b : Rows) : (s.setFb t b).ptrace = s.ptrace := rfl

/-! ### setBuf -/

@[simp] theorem State.setBuf_cfg (s : State) (d : BufId) (b : Rows) : (s.setBuf d b).cfg = s.cfg := rfl
@[simp] theorem State.setBuf_port (s : State) (d : BufId) (b : Rows) : (s.setBuf d b).port = s.port := rfl
@[simp] theorem State.setBuf_dispReady (s : State) (d : BufId) (b : Rows) : (s.setBuf d b).dispReady = s.dispReady := rfl
@[simp] theorem State.setBuf_active (s : State) (d : BufId) (b : Rows) : (s.setBuf d b).active = s.active := rfl
@[simp] theorem State.setBuf_pendV (s : State) (d : BufId) (b : Rows) : (s.setBuf d b).pendV = s.pendV := rfl
@[simp] theorem State.setBuf_pend (s : State) (d : BufId) (b : Rows) : (s.setBuf d b).pend = s.pend := rfl
@[simp] theorem State.setBuf_cursor (s : State) (d : BufId) (b : Rows) : (s.setBuf d b).cursor = s.cursor := rfl
@[simp] theorem State.setBuf_oe (s : State) (d : BufId) (b : Rows) : (s.setBuf d b).oe = s.oe := rfl
@[simp] theorem State.setBuf_data (s : State) (d : BufId) (b : Rows) : (s.setBuf d b).data = s.data := rfl
@[simp] theorem State.setBuf_sclk (s : State) (d : BufId) (b : Rows) : (s.setBuf d b).sclk = s.sclk := rfl
@[simp] theorem State.setBuf_latch (s : State) (d : BufId) (b : Rows) : (s.setBuf d b).latch = s.latch := rfl
@[simp] theorem State.setBuf_gameReady (s : State) (d : BufId) (b : Rows) : (s.setBuf d b).gameReady = s.gameReady := rfl
@[simp] theorem State.setBuf_pid (s : State) (d : BufId) (b : Rows) : (s.setBuf d b).pid = s.pid := rfl
@[simp] theorem State.setBuf_x (s : State) (d : BufId) (b : Rows) : (s.setBuf d b).x = s.x := rfl
@[simp] theorem State.setBuf_y (s : State) (d : BufId) (b : Rows) : (s.setBuf d b).y = s.y := rfl
@[simp] theorem State.setBuf_ori (s : State) (d : BufId) (b : Rows) : (s.setBuf d b).ori = s.ori := rfl
@[simp] theorem State.setBuf_gx (s : State) (d : BufId) (b : Rows) : (s.setBuf d b).gx = s.gx := rfl
@[simp] theorem State.setBuf_gy (s : State) (d : BufId) (b : Rows) : (s.setBuf d b).gy = s.gy := rfl
@[simp] theorem State.setBuf_gori (s : State) (d : BufId) (b : Rows) : (s.setBuf d b).gori = s.gori := rfl
@[simp] theorem State.setBuf_speed (s : State) (d : BufId) (b : Rows) : (s.setBuf d b).speed = s.speed := rfl
@[simp] theorem State.setBuf_level (s : State) (d : BufId) (b : Rows) : (s.setBuf d b).level = s.level := rfl
@[simp] theorem State.setBuf_faultOp (s : State) (d : BufId) (b : Rows) : (s.setBuf d b).faultOp = s.faultOp := rfl
@[simp] theorem State.setBuf_fault (s : State) (d : BufId) (b : Rows) : (s.setBuf d b).fault = s.fault := rfl
@[simp] theorem State.setBuf_board (s : State) (d : BufId) (b : Rows) : (s.setBuf d b).board = (if d = .board then b else s.board) := rfl
@[simp] theorem State.setBuf_work (s : State) (d : BufId) (b : Rows) : (s.setBuf d b).work = (if d = .work then b else s.work) := rfl
@[simp] theorem State.setBuf_fb0 (s : State) (d : BufId) (b : Rows) : (s.setBuf d b).fb0 = (if d = .fb 0 then b else s.fb0) := rfl
@[simp] theorem State.setBuf_fb1 (s : State) (d : BufId) (b : Rows) : (s.setBuf d b).fb1 = (if d = .fb 1 then b else s.fb1) := rfl
@[simp] theorem State.setBuf_br (s : State) (d : BufId) (b : Rows) : (s.setBuf d b).br = s.br := rfl
@[simp] theorem State.setBuf_ovf (s : State) (d : BufId) (b : Rows) : (s.setBuf d b).ovf = s.ovf := rfl
@[simp] theorem State.setBuf_entry (s : State) (d : BufId) (b : Rows) : (s.setBuf d b).entry = s.entry := rfl
@[simp] theorem State.setBuf_ltrace (s : State) (d : BufId) (b : Rows) : (s.setBuf d b).ltrace = s.ltrace := rfl
@[simp] theorem State.setBuf_ptrace (s : State) (d : BufId) (b : Rows) : (s.setBuf d b).ptrace = s.ptrace := rfl

/-! ### raiseFault -/

@[simp] theorem raiseFault_cfg (c : FaultCode) (op : Byte) (s : State) : (raiseFault c op s).cfg = s.cfg := rfl
@[simp] theorem raiseFault_port (c : FaultCode) (op : Byte) (s : State) : (raiseFault c op s).port = s.port := rfl
@[simp] theorem raiseFault_dispReady (c : FaultCode) (op : Byte) (s : State) : (raiseFault c op s).dispReady = s.dispReady := rfl
@[simp] theorem raiseFault_active (c : FaultCode) (op : Byte) (s : State) : (raiseFault c op s).active = s.active := rfl
@[simp] theorem raiseFault_pendV (c : FaultCode) (op : Byte) (s : State) : (raiseFault c op s).pendV = s.pendV := rfl
@[simp] theorem raiseFault_pend (c : FaultCode) (op : Byte) (s : State) : (raiseFault c op s).pend = s.pend := rfl
@[simp] theorem raiseFault_cursor (c : FaultCode) (op : Byte) (s : State) : (raiseFault c op s).cursor = s.cursor := rfl
@[simp] theorem raiseFault_oe (c : FaultCode) (op : Byte) (s : State) : (raiseFault c op s).oe = s.oe := rfl
@[simp] theorem raiseFault_data (c : FaultCode) (op : Byte) (s : State) : (raiseFault c op s).data = s.data := rfl
@[simp] theorem raiseFault_sclk (c : FaultCode) (op : Byte) (s : State) : (raiseFault c op s).sclk = s.sclk := rfl
@[simp] theorem raiseFault_latch (c : FaultCode) (op : Byte) (s : State) : (raiseFault c op s).latch = s.latch := rfl
@[simp] theorem raiseFault_gameReady (c : FaultCode) (op : Byte) (s : State) : (raiseFault c op s).gameReady = s.gameReady := rfl
@[simp] theorem raiseFault_pid (c : FaultCode) (op : Byte) (s : State) : (raiseFault c op s).pid = s.pid := rfl
@[simp] theorem raiseFault_x (c : FaultCode) (op : Byte) (s : State) : (raiseFault c op s).x = s.x := rfl
@[simp] theorem raiseFault_y (c : FaultCode) (op : Byte) (s : State) : (raiseFault c op s).y = s.y := rfl
@[simp] theorem raiseFault_ori (c : FaultCode) (op : Byte) (s : State) : (raiseFault c op s).ori = s.ori := rfl
@[simp] theorem raiseFault_gx (c : FaultCode) (op : Byte) (s : State) : (raiseFault c op s).gx = s.gx := rfl
@[simp] theorem raiseFault_gy (c : FaultCode) (op : Byte) (s : State) : (raiseFault c op s).gy = s.gy := rfl
@[simp] theorem raiseFault_gori (c : FaultCode) (op : Byte) (s : State) : (raiseFault c op s).gori = s.gori := rfl
@[simp] theorem raiseFault_speed (c : FaultCode) (op : Byte) (s : State) : (raiseFault c op s).speed = s.speed := rfl
@[simp] theorem raiseFault_level (c : FaultCode) (op : Byte) (s : State) : (raiseFault c op s).level = s.level := rfl
@[simp] theorem raiseFault_faultOp (c : FaultCode) (op : Byte) (s : State) : (raiseFault c op s).faultOp = op := rfl
@[simp] theorem raiseFault_fault (c : FaultCode) (op : Byte) (s : State) : (raiseFault c op s).fault = faultCode c := rfl
@[simp] theorem raiseFault_board (c : FaultCode) (op : Byte) (s : State) : (raiseFault c op s).board = s.board := rfl
@[simp] theorem raiseFault_work (c : FaultCode) (op : Byte) (s : State) : (raiseFault c op s).work = s.work := rfl
@[simp] theorem raiseFault_fb0 (c : FaultCode) (op : Byte) (s : State) : (raiseFault c op s).fb0 = s.fb0 := rfl
@[simp] theorem raiseFault_fb1 (c : FaultCode) (op : Byte) (s : State) : (raiseFault c op s).fb1 = s.fb1 := rfl
@[simp] theorem raiseFault_br (c : FaultCode) (op : Byte) (s : State) : (raiseFault c op s).br = s.br := rfl
@[simp] theorem raiseFault_ovf (c : FaultCode) (op : Byte) (s : State) : (raiseFault c op s).ovf = s.ovf := rfl
@[simp] theorem raiseFault_entry (c : FaultCode) (op : Byte) (s : State) : (raiseFault c op s).entry = s.entry := rfl
@[simp] theorem raiseFault_ltrace (c : FaultCode) (op : Byte) (s : State) : (raiseFault c op s).ltrace = s.ltrace := rfl
@[simp] theorem raiseFault_ptrace (c : FaultCode) (op : Byte) (s : State) : (raiseFault c op s).ptrace = s.ptrace := rfl

/-! ### queueSlot -/

@[simp] theorem queueSlot_cfg (t : Slot) (s : State) : (queueSlot t s).cfg = s.cfg := rfl
@[simp] theorem queueSlot_port (t : Slot) (s : State) : (queueSlot t s).port = s.port := rfl
@[simp] theorem queueSlot_dispReady (t : Slot) (s : State) : (queueSlot t s).dispReady = s.dispReady := rfl
@[simp] theorem queueSlot_active (t : Slot) (s : State) : (queueSlot t s).active = s.active := rfl
@[simp] theorem queueSlot_pendV (t : Slot) (s : State) : (queueSlot t s).pendV = true := rfl
@[simp] theorem queueSlot_pend (t : Slot) (s : State) : (queueSlot t s).pend = t := rfl
@[simp] theorem queueSlot_cursor (t : Slot) (s : State) : (queueSlot t s).cursor = s.cursor := rfl
@[simp] theorem queueSlot_oe (t : Slot) (s : State) : (queueSlot t s).oe = s.oe := rfl
@[simp] theorem queueSlot_data (t : Slot) (s : State) : (queueSlot t s).data = s.data := rfl
@[simp] theorem queueSlot_sclk (t : Slot) (s : State) : (queueSlot t s).sclk = s.sclk := rfl
@[simp] theorem queueSlot_latch (t : Slot) (s : State) : (queueSlot t s).latch = s.latch := rfl
@[simp] theorem queueSlot_gameReady (t : Slot) (s : State) : (queueSlot t s).gameReady = s.gameReady := rfl
@[simp] theorem queueSlot_pid (t : Slot) (s : State) : (queueSlot t s).pid = s.pid := rfl
@[simp] theorem queueSlot_x (t : Slot) (s : State) : (queueSlot t s).x = s.x := rfl
@[simp] theorem queueSlot_y (t : Slot) (s : State) : (queueSlot t s).y = s.y := rfl
@[simp] theorem queueSlot_ori (t : Slot) (s : State) : (queueSlot t s).ori = s.ori := rfl
@[simp] theorem queueSlot_gx (t : Slot) (s : State) : (queueSlot t s).gx = s.gx := rfl
@[simp] theorem queueSlot_gy (t : Slot) (s : State) : (queueSlot t s).gy = s.gy := rfl
@[simp] theorem queueSlot_gori (t : Slot) (s : State) : (queueSlot t s).gori = s.gori := rfl
@[simp] theorem queueSlot_speed (t : Slot) (s : State) : (queueSlot t s).speed = s.speed := rfl
@[simp] theorem queueSlot_level (t : Slot) (s : State) : (queueSlot t s).level = s.level := rfl
@[simp] theorem queueSlot_faultOp (t : Slot) (s : State) : (queueSlot t s).faultOp = s.faultOp := rfl
@[simp] theorem queueSlot_fault (t : Slot) (s : State) : (queueSlot t s).fault = s.fault := rfl
@[simp] theorem queueSlot_board (t : Slot) (s : State) : (queueSlot t s).board = s.board := rfl
@[simp] theorem queueSlot_work (t : Slot) (s : State) : (queueSlot t s).work = s.work := rfl
@[simp] theorem queueSlot_fb0 (t : Slot) (s : State) : (queueSlot t s).fb0 = s.fb0 := rfl
@[simp] theorem queueSlot_fb1 (t : Slot) (s : State) : (queueSlot t s).fb1 = s.fb1 := rfl
@[simp] theorem queueSlot_br (t : Slot) (s : State) : (queueSlot t s).br = s.br := rfl
@[simp] theorem queueSlot_ovf (t : Slot) (s : State) : (queueSlot t s).ovf = s.ovf := rfl
@[simp] theorem queueSlot_entry (t : Slot) (s : State) : (queueSlot t s).entry = s.entry := rfl
@[simp] theorem queueSlot_ltrace (t : Slot) (s : State) : (queueSlot t s).ltrace = s.ltrace := rfl
@[simp] theorem queueSlot_ptrace (t : Slot) (s : State) : (queueSlot t s).ptrace = s.ptrace := rfl

/-! ### clearWork -/

@[simp] theorem clearWork_cfg (s : State) : (clearWork s).cfg = s.cfg := rfl
@[simp] theorem clearWork_port (s : State) : (clearWork s).port = s.port := rfl
@[simp] theorem clearWork_dispReady (s : State) : (clearWork s).dispReady = s.dispReady := rfl
@[simp] theorem clearWork_active (s : State) : (clearWork s).active = s.active := rfl
@[simp] theorem clearWork_pendV (s : State) : (clearWork s).pendV = s.pendV := rfl
@[simp] theorem clearWork_pend (s : State) : (clearWork s).pend = s.pend := rfl
@[simp] theorem clearWork_cursor (s : State) : (clearWork s).cursor = s.cursor := rfl
@[simp] theorem clearWork_oe (s : State) : (clearWork s).oe = s.oe := rfl
@[simp] theorem clearWork_data (s : State) : (clearWork s).data = s.data := rfl
@[simp] theorem clearWork_sclk (s : State) : (clearWork s).sclk = s.sclk := rfl
@[simp] theorem clearWork_latch (s : State) : (clearWork s).latch = s.latch := rfl
@[simp] theorem clearWork_gameReady (s : State) : (clearWork s).gameReady = s.gameReady := rfl
@[simp] theorem clearWork_pid (s : State) : (clearWork s).pid = s.pid := rfl
@[simp] theorem clearWork_x (s : State) : (clearWork s).x = s.x := rfl
@[simp] theorem clearWork_y (s : State) : (clearWork s).y = s.y := rfl
@[simp] theorem clearWork_ori (s : State) : (clearWork s).ori = s.ori := rfl
@[simp] theorem clearWork_gx (s : State) : (clearWork s).gx = s.gx := rfl
@[simp] theorem clearWork_gy (s : State) : (clearWork s).gy = s.gy := rfl
@[simp] theorem clearWork_gori (s : State) : (clearWork s).gori = s.gori := rfl
@[simp] theorem clearWork_speed (s : State) : (clearWork s).speed = s.speed := rfl
@[simp] theorem clearWork_level (s : State) : (clearWork s).level = s.level := rfl
@[simp] theorem clearWork_faultOp (s : State) : (clearWork s).faultOp = s.faultOp := rfl
@[simp] theorem clearWork_fault (s : State) : (clearWork s).fault = s.fault := rfl
@[simp] theorem clearWork_board (s : State) : (clearWork s).board = s.board := rfl
@[simp] theorem clearWork_work (s : State) : (clearWork s).work = Rows.zero := rfl
@[simp] theorem clearWork_fb0 (s : State) : (clearWork s).fb0 = s.fb0 := rfl
@[simp] theorem clearWork_fb1 (s : State) : (clearWork s).fb1 = s.fb1 := rfl
@[simp] theorem clearWork_br (s : State) : (clearWork s).br = s.br := rfl
@[simp] theorem clearWork_ovf (s : State) : (clearWork s).ovf = s.ovf := rfl
@[simp] theorem clearWork_entry (s : State) : (clearWork s).entry = s.entry := rfl
@[simp] theorem clearWork_ltrace (s : State) : (clearWork s).ltrace = s.ltrace := rfl
@[simp] theorem clearWork_ptrace (s : State) : (clearWork s).ptrace = s.ptrace := rfl

/-! ### checkBounds -/

@[simp] theorem checkBounds_cfg (p : PieceId) (o : Orient) (a b : Coord) (s : State) : (checkBounds p o a b s).cfg = s.cfg := rfl
@[simp] theorem checkBounds_port (p : PieceId) (o : Orient) (a b : Coord) (s : State) : (checkBounds p o a b s).port = s.port := rfl
@[simp] theorem checkBounds_dispReady (p : PieceId) (o : Orient) (a b : Coord) (s : State) : (checkBounds p o a b s).dispReady = s.dispReady := rfl
@[simp] theorem checkBounds_active (p : PieceId) (o : Orient) (a b : Coord) (s : State) : (checkBounds p o a b s).active = s.active := rfl
@[simp] theorem checkBounds_pendV (p : PieceId) (o : Orient) (a b : Coord) (s : State) : (checkBounds p o a b s).pendV = s.pendV := rfl
@[simp] theorem checkBounds_pend (p : PieceId) (o : Orient) (a b : Coord) (s : State) : (checkBounds p o a b s).pend = s.pend := rfl
@[simp] theorem checkBounds_cursor (p : PieceId) (o : Orient) (a b : Coord) (s : State) : (checkBounds p o a b s).cursor = s.cursor := rfl
@[simp] theorem checkBounds_oe (p : PieceId) (o : Orient) (a b : Coord) (s : State) : (checkBounds p o a b s).oe = s.oe := rfl
@[simp] theorem checkBounds_data (p : PieceId) (o : Orient) (a b : Coord) (s : State) : (checkBounds p o a b s).data = s.data := rfl
@[simp] theorem checkBounds_sclk (p : PieceId) (o : Orient) (a b : Coord) (s : State) : (checkBounds p o a b s).sclk = s.sclk := rfl
@[simp] theorem checkBounds_latch (p : PieceId) (o : Orient) (a b : Coord) (s : State) : (checkBounds p o a b s).latch = s.latch := rfl
@[simp] theorem checkBounds_gameReady (p : PieceId) (o : Orient) (a b : Coord) (s : State) : (checkBounds p o a b s).gameReady = s.gameReady := rfl
@[simp] theorem checkBounds_pid (p : PieceId) (o : Orient) (a b : Coord) (s : State) : (checkBounds p o a b s).pid = s.pid := rfl
@[simp] theorem checkBounds_x (p : PieceId) (o : Orient) (a b : Coord) (s : State) : (checkBounds p o a b s).x = s.x := rfl
@[simp] theorem checkBounds_y (p : PieceId) (o : Orient) (a b : Coord) (s : State) : (checkBounds p o a b s).y = s.y := rfl
@[simp] theorem checkBounds_ori (p : PieceId) (o : Orient) (a b : Coord) (s : State) : (checkBounds p o a b s).ori = s.ori := rfl
@[simp] theorem checkBounds_gx (p : PieceId) (o : Orient) (a b : Coord) (s : State) : (checkBounds p o a b s).gx = s.gx := rfl
@[simp] theorem checkBounds_gy (p : PieceId) (o : Orient) (a b : Coord) (s : State) : (checkBounds p o a b s).gy = s.gy := rfl
@[simp] theorem checkBounds_gori (p : PieceId) (o : Orient) (a b : Coord) (s : State) : (checkBounds p o a b s).gori = s.gori := rfl
@[simp] theorem checkBounds_speed (p : PieceId) (o : Orient) (a b : Coord) (s : State) : (checkBounds p o a b s).speed = s.speed := rfl
@[simp] theorem checkBounds_level (p : PieceId) (o : Orient) (a b : Coord) (s : State) : (checkBounds p o a b s).level = s.level := rfl
@[simp] theorem checkBounds_faultOp (p : PieceId) (o : Orient) (a b : Coord) (s : State) : (checkBounds p o a b s).faultOp = s.faultOp := rfl
@[simp] theorem checkBounds_fault (p : PieceId) (o : Orient) (a b : Coord) (s : State) : (checkBounds p o a b s).fault = s.fault := rfl
@[simp] theorem checkBounds_board (p : PieceId) (o : Orient) (a b : Coord) (s : State) : (checkBounds p o a b s).board = s.board := rfl
@[simp] theorem checkBounds_work (p : PieceId) (o : Orient) (a b : Coord) (s : State) : (checkBounds p o a b s).work = s.work := rfl
@[simp] theorem checkBounds_fb0 (p : PieceId) (o : Orient) (a b : Coord) (s : State) : (checkBounds p o a b s).fb0 = s.fb0 := rfl
@[simp] theorem checkBounds_fb1 (p : PieceId) (o : Orient) (a b : Coord) (s : State) : (checkBounds p o a b s).fb1 = s.fb1 := rfl
@[simp] theorem checkBounds_br (p : PieceId) (o : Orient) (a b : Coord) (s : State) : (checkBounds p o a b s).br = some (boundsOf s.cfg p o a b) := rfl
@[simp] theorem checkBounds_ovf (p : PieceId) (o : Orient) (a b : Coord) (s : State) : (checkBounds p o a b s).ovf = s.ovf := rfl
@[simp] theorem checkBounds_entry (p : PieceId) (o : Orient) (a b : Coord) (s : State) : (checkBounds p o a b s).entry = s.entry := rfl
@[simp] theorem checkBounds_ltrace (p : PieceId) (o : Orient) (a b : Coord) (s : State) : (checkBounds p o a b s).ltrace = s.ltrace := rfl
@[simp] theorem checkBounds_ptrace (p : PieceId) (o : Orient) (a b : Coord) (s : State) : (checkBounds p o a b s).ptrace = s.ptrace := rfl

/-! ### checkOverlap -/

@[simp] theorem checkOverlap_cfg (a b : BufId) (s : State) : (checkOverlap a b s).cfg = s.cfg := rfl
@[simp] theorem checkOverlap_port (a b : BufId) (s : State) : (checkOverlap a b s).port = s.port := rfl
@[simp] theorem checkOverlap_dispReady (a b : BufId) (s : State) : (checkOverlap a b s).dispReady = s.dispReady := rfl
@[simp] theorem checkOverlap_active (a b : BufId) (s : State) : (checkOverlap a b s).active = s.active := rfl
@[simp] theorem checkOverlap_pendV (a b : BufId) (s : State) : (checkOverlap a b s).pendV = s.pendV := rfl
@[simp] theorem checkOverlap_pend (a b : BufId) (s : State) : (checkOverlap a b s).pend = s.pend := rfl
@[simp] theorem checkOverlap_cursor (a b : BufId) (s : State) : (checkOverlap a b s).cursor = s.cursor := rfl
@[simp] theorem checkOverlap_oe (a b : BufId) (s : State) : (checkOverlap a b s).oe = s.oe := rfl
@[simp] theorem checkOverlap_data (a b : BufId) (s : State) : (checkOverlap a b s).data = s.data := rfl
@[simp] theorem checkOverlap_sclk (a b : BufId) (s : State) : (checkOverlap a b s).sclk = s.sclk := rfl
@[simp] theorem checkOverlap_latch (a b : BufId) (s : State) : (checkOverlap a b s).latch = s.latch := rfl
@[simp] theorem checkOverlap_gameReady (a b : BufId) (s : State) : (checkOverlap a b s).gameReady = s.gameReady := rfl
@[simp] theorem checkOverlap_pid (a b : BufId) (s : State) : (checkOverlap a b s).pid = s.pid := rfl
@[simp] theorem checkOverlap_x (a b : BufId) (s : State) : (checkOverlap a b s).x = s.x := rfl
@[simp] theorem checkOverlap_y (a b : BufId) (s : State) : (checkOverlap a b s).y = s.y := rfl
@[simp] theorem checkOverlap_ori (a b : BufId) (s : State) : (checkOverlap a b s).ori = s.ori := rfl
@[simp] theorem checkOverlap_gx (a b : BufId) (s : State) : (checkOverlap a b s).gx = s.gx := rfl
@[simp] theorem checkOverlap_gy (a b : BufId) (s : State) : (checkOverlap a b s).gy = s.gy := rfl
@[simp] theorem checkOverlap_gori (a b : BufId) (s : State) : (checkOverlap a b s).gori = s.gori := rfl
@[simp] theorem checkOverlap_speed (a b : BufId) (s : State) : (checkOverlap a b s).speed = s.speed := rfl
@[simp] theorem checkOverlap_level (a b : BufId) (s : State) : (checkOverlap a b s).level = s.level := rfl
@[simp] theorem checkOverlap_faultOp (a b : BufId) (s : State) : (checkOverlap a b s).faultOp = s.faultOp := rfl
@[simp] theorem checkOverlap_fault (a b : BufId) (s : State) : (checkOverlap a b s).fault = s.fault := rfl
@[simp] theorem checkOverlap_board (a b : BufId) (s : State) : (checkOverlap a b s).board = s.board := rfl
@[simp] theorem checkOverlap_work (a b : BufId) (s : State) : (checkOverlap a b s).work = s.work := rfl
@[simp] theorem checkOverlap_fb0 (a b : BufId) (s : State) : (checkOverlap a b s).fb0 = s.fb0 := rfl
@[simp] theorem checkOverlap_fb1 (a b : BufId) (s : State) : (checkOverlap a b s).fb1 = s.fb1 := rfl
@[simp] theorem checkOverlap_br (a b : BufId) (s : State) : (checkOverlap a b s).br = s.br := rfl
@[simp] theorem checkOverlap_ovf (a b : BufId) (s : State) : (checkOverlap a b s).ovf = some (disjoint (s.buf a) (s.buf b)) := rfl
@[simp] theorem checkOverlap_entry (a b : BufId) (s : State) : (checkOverlap a b s).entry = s.entry := rfl
@[simp] theorem checkOverlap_ltrace (a b : BufId) (s : State) : (checkOverlap a b s).ltrace = s.ltrace := rfl
@[simp] theorem checkOverlap_ptrace (a b : BufId) (s : State) : (checkOverlap a b s).ptrace = s.ptrace := rfl

/-! ### commit -/

@[simp] theorem commit_cfg (s : State) : (commit s).cfg = s.cfg := rfl
@[simp] theorem commit_port (s : State) : (commit s).port = s.port := rfl
@[simp] theorem commit_dispReady (s : State) : (commit s).dispReady = s.dispReady := rfl
@[simp] theorem commit_active (s : State) : (commit s).active = s.active := rfl
@[simp] theorem commit_pendV (s : State) : (commit s).pendV = s.pendV := rfl
@[simp] theorem commit_pend (s : State) : (commit s).pend = s.pend := rfl
@[simp] theorem commit_cursor (s : State) : (commit s).cursor = s.cursor := rfl
@[simp] theorem commit_oe (s : State) : (commit s).oe = s.oe := rfl
@[simp] theorem commit_data (s : State) : (commit s).data = s.data := rfl
@[simp] theorem commit_sclk (s : State) : (commit s).sclk = s.sclk := rfl
@[simp] theorem commit_latch (s : State) : (commit s).latch = s.latch := rfl
@[simp] theorem commit_gameReady (s : State) : (commit s).gameReady = s.gameReady := rfl
@[simp] theorem commit_pid (s : State) : (commit s).pid = s.pid := rfl
@[simp] theorem commit_x (s : State) : (commit s).x = s.x := rfl
@[simp] theorem commit_y (s : State) : (commit s).y = s.y := rfl
@[simp] theorem commit_ori (s : State) : (commit s).ori = s.ori := rfl
@[simp] theorem commit_gx (s : State) : (commit s).gx = s.x := rfl
@[simp] theorem commit_gy (s : State) : (commit s).gy = s.y := rfl
@[simp] theorem commit_gori (s : State) : (commit s).gori = s.ori := rfl
@[simp] theorem commit_speed (s : State) : (commit s).speed = s.speed := rfl
@[simp] theorem commit_level (s : State) : (commit s).level = s.level := rfl
@[simp] theorem commit_faultOp (s : State) : (commit s).faultOp = s.faultOp := rfl
@[simp] theorem commit_fault (s : State) : (commit s).fault = s.fault := rfl
@[simp] theorem commit_board (s : State) : (commit s).board = s.board := rfl
@[simp] theorem commit_work (s : State) : (commit s).work = s.work := rfl
@[simp] theorem commit_fb0 (s : State) : (commit s).fb0 = s.fb0 := rfl
@[simp] theorem commit_fb1 (s : State) : (commit s).fb1 = s.fb1 := rfl
@[simp] theorem commit_br (s : State) : (commit s).br = s.br := rfl
@[simp] theorem commit_ovf (s : State) : (commit s).ovf = s.ovf := rfl
@[simp] theorem commit_entry (s : State) : (commit s).entry = s.entry := rfl
@[simp] theorem commit_ltrace (s : State) : (commit s).ltrace = s.ltrace := rfl
@[simp] theorem commit_ptrace (s : State) : (commit s).ptrace = s.ptrace := rfl

/-! ### lock -/

@[simp] theorem lock_cfg (s : State) : (lock s).cfg = s.cfg := rfl
@[simp] theorem lock_port (s : State) : (lock s).port = s.port := rfl
@[simp] theorem lock_dispReady (s : State) : (lock s).dispReady = s.dispReady := rfl
@[simp] theorem lock_active (s : State) : (lock s).active = s.active := rfl
@[simp] theorem lock_pendV (s : State) : (lock s).pendV = s.pendV := rfl
@[simp] theorem lock_pend (s : State) : (lock s).pend = s.pend := rfl
@[simp] theorem lock_cursor (s : State) : (lock s).cursor = s.cursor := rfl
@[simp] theorem lock_oe (s : State) : (lock s).oe = s.oe := rfl
@[simp] theorem lock_data (s : State) : (lock s).data = s.data := rfl
@[simp] theorem lock_sclk (s : State) : (lock s).sclk = s.sclk := rfl
@[simp] theorem lock_latch (s : State) : (lock s).latch = s.latch := rfl
@[simp] theorem lock_gameReady (s : State) : (lock s).gameReady = s.gameReady := rfl
@[simp] theorem lock_pid (s : State) : (lock s).pid = s.pid := rfl
@[simp] theorem lock_x (s : State) : (lock s).x = s.x := rfl
@[simp] theorem lock_y (s : State) : (lock s).y = s.y := rfl
@[simp] theorem lock_ori (s : State) : (lock s).ori = s.ori := rfl
@[simp] theorem lock_gx (s : State) : (lock s).gx = s.gx := rfl
@[simp] theorem lock_gy (s : State) : (lock s).gy = s.gy := rfl
@[simp] theorem lock_gori (s : State) : (lock s).gori = s.gori := rfl
@[simp] theorem lock_speed (s : State) : (lock s).speed = s.speed := rfl
@[simp] theorem lock_level (s : State) : (lock s).level = s.level := rfl
@[simp] theorem lock_faultOp (s : State) : (lock s).faultOp = s.faultOp := rfl
@[simp] theorem lock_fault (s : State) : (lock s).fault = s.fault := rfl
@[simp] theorem lock_board (s : State) : (lock s).board = s.board.or s.work := rfl
@[simp] theorem lock_work (s : State) : (lock s).work = s.work := rfl
@[simp] theorem lock_fb0 (s : State) : (lock s).fb0 = s.fb0 := rfl
@[simp] theorem lock_fb1 (s : State) : (lock s).fb1 = s.fb1 := rfl
@[simp] theorem lock_br (s : State) : (lock s).br = s.br := rfl
@[simp] theorem lock_ovf (s : State) : (lock s).ovf = s.ovf := rfl
@[simp] theorem lock_entry (s : State) : (lock s).entry = s.entry := rfl
@[simp] theorem lock_ltrace (s : State) : (lock s).ltrace = s.ltrace := rfl
@[simp] theorem lock_ptrace (s : State) : (lock s).ptrace = s.ptrace := rfl

/-! ### rowClear -/

@[simp] theorem rowClear_cfg (s : State) : (rowClear s).cfg = s.cfg := by simp only [rowClear]
@[simp] theorem rowClear_port (s : State) : (rowClear s).port = s.port := by simp only [rowClear]
@[simp] theorem rowClear_dispReady (s : State) : (rowClear s).dispReady = s.dispReady := by simp only [rowClear]
@[simp] theorem rowClear_active (s : State) : (rowClear s).active = s.active := by simp only [rowClear]
@[simp] theorem rowClear_pendV (s : State) : (rowClear s).pendV = s.pendV := by simp only [rowClear]
@[simp] theorem rowClear_pend (s : State) : (rowClear s).pend = s.pend := by simp only [rowClear]
@[simp] theorem rowClear_cursor (s : State) : (rowClear s).cursor = s.cursor := by simp only [rowClear]
@[simp] theorem rowClear_oe (s : State) : (rowClear s).oe = s.oe := by simp only [rowClear]
@[simp] theorem rowClear_data (s : State) : (rowClear s).data = s.data := by simp only [rowClear]
@[simp] theorem rowClear_sclk (s : State) : (rowClear s).sclk = s.sclk := by simp only [rowClear]
@[simp] theorem rowClear_latch (s : State) : (rowClear s).latch = s.latch := by simp only [rowClear]
@[simp] theorem rowClear_gameReady (s : State) : (rowClear s).gameReady = s.gameReady := by simp only [rowClear]
@[simp] theorem rowClear_pid (s : State) : (rowClear s).pid = s.pid := by simp only [rowClear]
@[simp] theorem rowClear_x (s : State) : (rowClear s).x = s.x := by simp only [rowClear]
@[simp] theorem rowClear_y (s : State) : (rowClear s).y = s.y := by simp only [rowClear]
@[simp] theorem rowClear_ori (s : State) : (rowClear s).ori = s.ori := by simp only [rowClear]
@[simp] theorem rowClear_gx (s : State) : (rowClear s).gx = s.gx := by simp only [rowClear]
@[simp] theorem rowClear_gy (s : State) : (rowClear s).gy = s.gy := by simp only [rowClear]
@[simp] theorem rowClear_gori (s : State) : (rowClear s).gori = s.gori := by simp only [rowClear]
@[simp] theorem rowClear_speed (s : State) : (rowClear s).speed = s.speed := by simp only [rowClear]
@[simp] theorem rowClear_level (s : State) : (rowClear s).level = (clearRows s.board s.level).2 := by simp only [rowClear]
@[simp] theorem rowClear_faultOp (s : State) : (rowClear s).faultOp = s.faultOp := by simp only [rowClear]
@[simp] theorem rowClear_fault (s : State) : (rowClear s).fault = s.fault := by simp only [rowClear]
@[simp] theorem rowClear_board (s : State) : (rowClear s).board = (clearRows s.board s.level).1 := by simp only [rowClear]
@[simp] theorem rowClear_work (s : State) : (rowClear s).work = s.work := by simp only [rowClear]
@[simp] theorem rowClear_fb0 (s : State) : (rowClear s).fb0 = s.fb0 := by simp only [rowClear]
@[simp] theorem rowClear_fb1 (s : State) : (rowClear s).fb1 = s.fb1 := by simp only [rowClear]
@[simp] theorem rowClear_br (s : State) : (rowClear s).br = s.br := by simp only [rowClear]
@[simp] theorem rowClear_ovf (s : State) : (rowClear s).ovf = s.ovf := by simp only [rowClear]
@[simp] theorem rowClear_entry (s : State) : (rowClear s).entry = s.entry := by simp only [rowClear]
@[simp] theorem rowClear_ltrace (s : State) : (rowClear s).ltrace = s.ltrace := by simp only [rowClear]
@[simp] theorem rowClear_ptrace (s : State) : (rowClear s).ptrace = s.ptrace := by simp only [rowClear]

/-! ### spawn -/

@[simp] theorem spawn_cfg (s : State) : (spawn s).cfg = s.cfg := rfl
@[simp] theorem spawn_port (s : State) : (spawn s).port = s.port := rfl
@[simp] theorem spawn_dispReady (s : State) : (spawn s).dispReady = s.dispReady := rfl
@[simp] theorem spawn_active (s : State) : (spawn s).active = s.active := rfl
@[simp] theorem spawn_pendV (s : State) : (spawn s).pendV = s.pendV := rfl
@[simp] theorem spawn_pend (s : State) : (spawn s).pend = s.pend := rfl
@[simp] theorem spawn_cursor (s : State) : (spawn s).cursor = s.cursor := rfl
@[simp] theorem spawn_oe (s : State) : (spawn s).oe = s.oe := rfl
@[simp] theorem spawn_data (s : State) : (spawn s).data = s.data := rfl
@[simp] theorem spawn_sclk (s : State) : (spawn s).sclk = s.sclk := rfl
@[simp] theorem spawn_latch (s : State) : (spawn s).latch = s.latch := rfl
@[simp] theorem spawn_gameReady (s : State) : (spawn s).gameReady = s.gameReady := rfl
@[simp] theorem spawn_pid (s : State) : (spawn s).pid = s.pid ^^^ 1 := rfl
@[simp] theorem spawn_x (s : State) : (spawn s).x = spawnX := rfl
@[simp] theorem spawn_y (s : State) : (spawn s).y = spawnY := rfl
@[simp] theorem spawn_ori (s : State) : (spawn s).ori = spawnO := rfl
@[simp] theorem spawn_gx (s : State) : (spawn s).gx = spawnX := rfl
@[simp] theorem spawn_gy (s : State) : (spawn s).gy = spawnY := rfl
@[simp] theorem spawn_gori (s : State) : (spawn s).gori = spawnO := rfl
@[simp] theorem spawn_speed (s : State) : (spawn s).speed = s.speed := rfl
@[simp] theorem spawn_level (s : State) : (spawn s).level = s.level := rfl
@[simp] theorem spawn_faultOp (s : State) : (spawn s).faultOp = s.faultOp := rfl
@[simp] theorem spawn_fault (s : State) : (spawn s).fault = s.fault := rfl
@[simp] theorem spawn_board (s : State) : (spawn s).board = s.board := rfl
@[simp] theorem spawn_work (s : State) : (spawn s).work = s.work := rfl
@[simp] theorem spawn_fb0 (s : State) : (spawn s).fb0 = s.fb0 := rfl
@[simp] theorem spawn_fb1 (s : State) : (spawn s).fb1 = s.fb1 := rfl
@[simp] theorem spawn_br (s : State) : (spawn s).br = s.br := rfl
@[simp] theorem spawn_ovf (s : State) : (spawn s).ovf = s.ovf := rfl
@[simp] theorem spawn_entry (s : State) : (spawn s).entry = s.entry := rfl
@[simp] theorem spawn_ltrace (s : State) : (spawn s).ltrace = s.ltrace := rfl
@[simp] theorem spawn_ptrace (s : State) : (spawn s).ptrace = s.ptrace := rfl

/-! ### dropTransients -/

@[simp] theorem dropTransients_cfg (s : State) : (dropTransients s).cfg = s.cfg := rfl
@[simp] theorem dropTransients_port (s : State) : (dropTransients s).port = s.port := rfl
@[simp] theorem dropTransients_dispReady (s : State) : (dropTransients s).dispReady = s.dispReady := rfl
@[simp] theorem dropTransients_active (s : State) : (dropTransients s).active = s.active := rfl
@[simp] theorem dropTransients_pendV (s : State) : (dropTransients s).pendV = s.pendV := rfl
@[simp] theorem dropTransients_pend (s : State) : (dropTransients s).pend = s.pend := rfl
@[simp] theorem dropTransients_cursor (s : State) : (dropTransients s).cursor = s.cursor := rfl
@[simp] theorem dropTransients_oe (s : State) : (dropTransients s).oe = s.oe := rfl
@[simp] theorem dropTransients_data (s : State) : (dropTransients s).data = s.data := rfl
@[simp] theorem dropTransients_sclk (s : State) : (dropTransients s).sclk = s.sclk := rfl
@[simp] theorem dropTransients_latch (s : State) : (dropTransients s).latch = s.latch := rfl
@[simp] theorem dropTransients_gameReady (s : State) : (dropTransients s).gameReady = s.gameReady := rfl
@[simp] theorem dropTransients_pid (s : State) : (dropTransients s).pid = s.pid := rfl
@[simp] theorem dropTransients_x (s : State) : (dropTransients s).x = s.x := rfl
@[simp] theorem dropTransients_y (s : State) : (dropTransients s).y = s.y := rfl
@[simp] theorem dropTransients_ori (s : State) : (dropTransients s).ori = s.ori := rfl
@[simp] theorem dropTransients_gx (s : State) : (dropTransients s).gx = s.gx := rfl
@[simp] theorem dropTransients_gy (s : State) : (dropTransients s).gy = s.gy := rfl
@[simp] theorem dropTransients_gori (s : State) : (dropTransients s).gori = s.gori := rfl
@[simp] theorem dropTransients_speed (s : State) : (dropTransients s).speed = s.speed := rfl
@[simp] theorem dropTransients_level (s : State) : (dropTransients s).level = s.level := rfl
@[simp] theorem dropTransients_faultOp (s : State) : (dropTransients s).faultOp = s.faultOp := rfl
@[simp] theorem dropTransients_fault (s : State) : (dropTransients s).fault = s.fault := rfl
@[simp] theorem dropTransients_board (s : State) : (dropTransients s).board = s.board := rfl
@[simp] theorem dropTransients_work (s : State) : (dropTransients s).work = s.work := rfl
@[simp] theorem dropTransients_fb0 (s : State) : (dropTransients s).fb0 = s.fb0 := rfl
@[simp] theorem dropTransients_fb1 (s : State) : (dropTransients s).fb1 = s.fb1 := rfl
@[simp] theorem dropTransients_br (s : State) : (dropTransients s).br = none := rfl
@[simp] theorem dropTransients_ovf (s : State) : (dropTransients s).ovf = none := rfl
@[simp] theorem dropTransients_entry (s : State) : (dropTransients s).entry = none := rfl
@[simp] theorem dropTransients_ltrace (s : State) : (dropTransients s).ltrace = s.ltrace := rfl
@[simp] theorem dropTransients_ptrace (s : State) : (dropTransients s).ptrace = s.ptrace := rfl

end Sys2Proof.Machine
end

