-- ==== Sys2Proof/Laws/Ops.lean ====
section
/-! SUPPORT. One lemma for each shared operation that says once what it can do. -/

namespace Sys2Proof.Machine

/-! ## Pins -/

/-- The last level that events drive on a line, or the level it had. -/
def levelAfter (l : Line) (v : Bool) (es : List PinEvent) : Bool :=
  es.foldl (fun b e => if e.1 = l then e.2 else b) v

/-- Driving a sequence of events writes the three lines and appends the events to PTRACE, and nothing else. -/
theorem driveAll_eq (es : List PinEvent) (s : State) :
    s.driveAll es = { s with
      data := levelAfter .data s.data es
      sclk := levelAfter .sclk s.sclk es
      latch := levelAfter .latch s.latch es
      ptrace := s.ptrace ++ es } := by
  induction es generalizing s with
  | nil => simp [State.driveAll, levelAfter]
  | cons e es ih =>
    have h : s.driveAll (e :: es) = (s.drive e.1 e.2).driveAll es := rfl
    rw [h, ih]
    obtain ⟨l, v⟩ := e
    simp [levelAfter, State.drive, List.append_assoc]

/-- SHIFT_OUT leaves DATA at bit 0 and both clock lines low, and appends its 50 events. -/
theorem shiftOut_eq (w : SerialWord) (s : State) :
    shiftOut w s = { s with
      data := w.getLsbD 0
      sclk := false
      latch := false
      ptrace := s.ptrace ++ shiftEvents w } := by
  unfold shiftOut
  rw [driveAll_eq]
  rfl

theorem shiftEvents_length (w : SerialWord) : (shiftEvents w).length = 50 := rfl

/-- WROW up to its swap check: the lines, PTRACE and LTRACE. -/
theorem scanRow_eq (s : State) :
    scanRow s = { s with
      data := (rowsel s.cfg s.cursor).getLsbD 0
      sclk := false
      latch := false
      ptrace := s.ptrace ++ shiftEvents (serialWord (pixelByte s) (rowsel s.cfg s.cursor))
      ltrace := s.ltrace ++ [(pixelByte s, rowsel s.cfg s.cursor)] } := by
  have hbit : (serialWord (pixelByte s) (rowsel s.cfg s.cursor)).getLsbD 0 = (rowsel s.cfg s.cursor).getLsbD 0 := by
    rw [serialWord, BitVec.getLsbD_append]
    rfl
  unfold scanRow
  rw [shiftOut_eq, hbit]
  rfl

/-- DINIT's effect as one update. -/
theorem displayInit_eq (slot : Slot) (s : State) :
    displayInit slot s = { s with
      oe := true
      data := false
      sclk := false
      latch := false
      ptrace := s.ptrace ++ [(.data, false), (.sclk, false), (.latch, false)]
      active := slot
      pendV := false
      cursor := 0
      dispReady := true } := by
  unfold displayInit
  rw [driveAll_eq]
  rfl

/-- SWAP_CHECK writes only the cursor, and at a wrap with a pending slot ACTIVE and PEND_V. -/
theorem swapCheck_cases (s : State) :
    (s.cursor = 7 ∧ s.pendV = true ∧ swapCheck s = { s with cursor := 0, active := s.pend, pendV := false }) ∨
      ((s.cursor ≠ 7 ∨ s.pendV = false) ∧ swapCheck s = { s with cursor := s.cursor + 1 }) := by
  have hw : s.cursor + 1 = 0 ↔ s.cursor = 7 := by
    generalize s.cursor = c
    revert c
    decide
  unfold swapCheck
  by_cases hc : s.cursor = 7
  · cases hp : s.pendV with
    | true => exact .inl ⟨hc, rfl, by simp [hc]⟩
    | false => exact .inr ⟨.inr rfl, by simp⟩
  · exact .inr ⟨.inl hc, if_neg fun h => hc (hw.mp h.1)⟩

/-! ## Guards and the port -/

/-- What a guarded host operation can do: nothing while halted, raise one of the two readiness faults, or take its effect. -/
theorem guarded_cases (op : Byte) (nd ng : Bool) (f : State → State) (s : State) :
    (s.fault ≠ 0 ∧ guarded op nd ng f s = s) ∨
      (s.fault = 0 ∧ nd = true ∧ s.dispReady = false ∧ guarded op nd ng f s = raiseFault .displayNotReady op s) ∨
      (s.fault = 0 ∧ ng = true ∧ s.gameReady = false ∧ guarded op nd ng f s = raiseFault .gameNotReady op s) ∨
      (s.fault = 0 ∧ (nd = true → s.dispReady = true) ∧ (ng = true → s.gameReady = true) ∧
        guarded op nd ng f s = f s) := by
  unfold guarded
  split
  · rename_i h
    exact .inl ⟨h, rfl⟩
  · rename_i h
    have h0 : s.fault = 0 := Classical.not_not.mp h
    split
    · rename_i hd
      exact .inr (.inl ⟨h0, hd.1, hd.2, rfl⟩)
    · rename_i hd
      split
      · rename_i hg
        exact .inr (.inr (.inl ⟨h0, hg.1, hg.2, rfl⟩))
      · rename_i hg
        refine .inr (.inr (.inr ⟨h0, fun hn => ?_, fun hn => ?_, rfl⟩))
        · cases hb : s.dispReady with
          | true => rfl
          | false => exact absurd ⟨hn, hb⟩ hd
        · cases hb : s.gameReady with
          | true => rfl
          | false => exact absurd ⟨hn, hb⟩ hg

theorem guarded_halted {op : Byte} {nd ng : Bool} {f : State → State} {s : State} (h : s.fault ≠ 0) :
    guarded op nd ng f s = s := by
  unfold guarded
  rw [if_pos h]

theorem guarded_runs {op : Byte} {nd ng : Bool} {f : State → State} {s : State} (h0 : s.fault = 0)
    (hd : nd = true → s.dispReady = true) (hg : ng = true → s.gameReady = true) : guarded op nd ng f s = f s := by
  unfold guarded
  rw [if_neg (by simp [h0]), if_neg (by rintro ⟨h, k⟩; simp [hd h] at k), if_neg (by rintro ⟨h, k⟩; simp [hg h] at k)]

/-- A step with no word waiting. -/
@[simp] theorem step_idle {s : State} (h : s.port = []) : step s = .next s := by
  unfold step takeNext
  rw [h]

/-- A step with a word waiting takes that word on the rest of the port. -/
theorem step_word {s : State} {op : Byte} {rest : List Byte} (h : s.port = op :: rest) :
    step s = acceptWord op { s with port := rest } := by
  unfold step takeNext
  rw [h]

/-- What taking a word can do: nothing while halted, raise the decoder's fault, or run the decoded operation. -/
theorem acceptWord_cases (op : Byte) (s : State) :
    (s.fault ≠ 0 ∧ acceptWord op s = .next s) ∨
      (s.fault = 0 ∧ ∃ c, decodeHost op = .reject c ∧ acceptWord op s = .next (raiseFault c op s)) ∨
      (s.fault = 0 ∧ ∃ i, decodeHost op = .ok i ∧ acceptWord op s = exec i s) := by
  unfold acceptWord
  split
  · rename_i h
    exact .inl ⟨h, rfl⟩
  · rename_i h
    have h0 : s.fault = 0 := Classical.not_not.mp h
    cases hd : decodeHost op with
    | ok i => exact .inr (.inr ⟨h0, i, rfl, rfl⟩)
    | reject c => exact .inr (.inl ⟨h0, c, rfl, rfl⟩)

/-! ## Collision engine and game -/

/-- BLIT into WORK writes only WORK. -/
theorem blit_work_eq (p : PieceId) (o : Orient) (x y : Coord) (s : State) :
    blit .work p o x y s = { s with work := blitRows (catRead s.cfg p o) x y s.work } := rfl

/-- The overlap check answers true exactly where every row pair is disjoint. -/
theorem disjoint_iff (a b : Rows) : disjoint a b = true ↔ ∀ i : Fin 8, a.get i &&& b.get i = 0 := by
  simp only [disjoint, rowOrder, List.all_cons, List.all_nil, Bool.and_true, Bool.and_eq_true, decide_eq_true_eq]
  constructor
  · rintro ⟨h0, h1, h2, h3, h4, h5, h6, h7⟩ i
    match i with
    | 0 => exact h0
    | 1 => exact h1
    | 2 => exact h2
    | 3 => exact h3
    | 4 => exact h4
    | 5 => exact h5
    | 6 => exact h6
    | 7 => exact h7
  · intro h
    exact ⟨h 0, h 1, h 2, h 3, h 4, h 5, h 6, h 7⟩

/-- The bounds check by its three cases. -/
theorem boundsOf_cases (c : Config) (p : PieceId) (o : Orient) (x y : Coord) :
    (8 < x.toNat + (catRead c p o).w.toNat ∧ boundsOf c p o x y = .side) ∨
      (x.toNat + (catRead c p o).w.toNat ≤ 8 ∧ 8 < y.toNat + (catRead c p o).h.toNat ∧ boundsOf c p o x y = .bottom) ∨
      (x.toNat + (catRead c p o).w.toNat ≤ 8 ∧ y.toNat + (catRead c p o).h.toNat ≤ 8 ∧ boundsOf c p o x y = .none) := by
  unfold boundsOf
  split
  · exact .inl ⟨by omega, rfl⟩
  · split
    · exact .inr (.inl ⟨by omega, by omega, rfl⟩)
    · exact .inr (.inr ⟨by omega, by omega, rfl⟩)

/-- REVERT as one update. -/
theorem revert_eq (s : State) :
    revert s = { s with
      x := s.gx
      y := s.gy
      ori := s.gori
      work := blitRows (catRead s.cfg s.pid s.gori) s.gx s.gy Rows.zero } := rfl

/-- START as one update. -/
theorem start_eq (s : State) :
    start s = { s with
      board := Rows.zero
      level := s.cfg.levelInit
      speed := s.cfg.speedReload
      pid := s.pid ^^^ 1
      x := spawnX
      y := spawnY
      ori := spawnO
      gx := spawnX
      gy := spawnY
      gori := spawnO } := rfl

/-- COMPOSE_HANDOFF as one update. -/
theorem composeHandoff_eq (s : State) :
    composeHandoff s = { s with
      fb0 := if s.active = 0 then s.fb0 else s.board.or s.work
      fb1 := if s.active = 0 then s.board.or s.work else s.fb1
      pend := otherSlot s.active
      pendV := true } := by
  unfold composeHandoff queueSlot State.setFb
  rcases slot_cases s.active with h | h
  · rw [h]
    rfl
  · rw [h]
    rfl

/-- SPEED_STEP as one update: gravity fires where the decremented count equals the threshold. -/
theorem speedStep_eq (s : State) :
    speedStep s = { s with
      y := if s.speed - 1 = s.level then s.y + 1 else s.y
      speed := if s.speed - 1 = s.level then s.cfg.speedReload else s.speed - 1 } := by
  unfold speedStep
  split <;> rfl

/-- Removing row i reads back row by row. -/
theorem get_removeRow (b : Rows) (i j : Fin 8) :
    (removeRow b i).get j = if j ≤ i then (if j = 0 then 0 else b.get (j - 1)) else b.get j := Rows.get_ofFn _ j

/-- Every entry of a configuration's catalog meets the admission constraints (R101). -/
theorem catRead_admitted (c : Config) (p : PieceId) (o : Orient) : (catRead c p o).admitted = true := by
  have h := c.catalogAdmitted
  unfold Catalog.admitted at h
  rw [Bool.and_eq_true, Bool.and_eq_true, List.all_eq_true] at h
  exact h.1.1 _ (List.mem_of_getElem? (catRead_entries c p o))

end Sys2Proof.Machine
end

