-- ==== Sys2Proof/Laws/PerInstr.lean ====
section
/-! SUPPORT. Families of statements about the operations as syntax, one lemma per constructor of `Instr`. -/

namespace Sys2Proof.Laws

/-- The table's words split at 0x80: a host operation's word lies below it, a micro-operation's identifier does not (R75, R76). -/
def HostPortSplit.Statement (i : Instr) : Prop := i.isHost = decide (encode i < 0x80#8)

theorem HostPortSplit.dinit (s : Slot) : HostPortSplit.Statement (.dinit s) := by
  revert s
  unfold HostPortSplit.Statement
  decide

theorem HostPortSplit.setbuf (s : Slot) : HostPortSplit.Statement (.setbuf s) := by
  revert s
  unfold HostPortSplit.Statement
  decide

theorem HostPortSplit.wrow : HostPortSplit.Statement .wrow := rfl

theorem HostPortSplit.ginit : HostPortSplit.Statement .ginit := rfl

theorem HostPortSplit.gstart : HostPortSplit.Statement .gstart := rfl

theorem HostPortSplit.gtick : HostPortSplit.Statement .gtick := rfl

theorem HostPortSplit.gcmdNone : HostPortSplit.Statement .gcmdNone := rfl

theorem HostPortSplit.gcmdRot : HostPortSplit.Statement .gcmdRot := rfl

theorem HostPortSplit.gcmdLeft : HostPortSplit.Statement .gcmdLeft := rfl

theorem HostPortSplit.gcmdRight : HostPortSplit.Statement .gcmdRight := rfl

theorem HostPortSplit.gcmdDown : HostPortSplit.Statement .gcmdDown := rfl

theorem HostPortSplit.catLookup (p : PieceId) (o : Orient) : HostPortSplit.Statement (.catLookup p o) := rfl

theorem HostPortSplit.checkBounds (p : PieceId) (o : Orient) (x y : Coord) : HostPortSplit.Statement (.checkBounds p o x y) := rfl

theorem HostPortSplit.blit (d : BufId) (p : PieceId) (o : Orient) (x y : Coord) : HostPortSplit.Statement (.blit d p o x y) := rfl

theorem HostPortSplit.checkOverlap (a b : BufId) : HostPortSplit.Statement (.checkOverlap a b) := rfl

theorem HostPortSplit.clearWork : HostPortSplit.Statement .clearWork := rfl

theorem HostPortSplit.applyCmd (c : Command) : HostPortSplit.Statement (.applyCmd c) := rfl

theorem HostPortSplit.commit : HostPortSplit.Statement .commit := rfl

theorem HostPortSplit.revert : HostPortSplit.Statement .revert := rfl

theorem HostPortSplit.lock : HostPortSplit.Statement .lock := rfl

theorem HostPortSplit.rowClear : HostPortSplit.Statement .rowClear := rfl

theorem HostPortSplit.spawn : HostPortSplit.Statement .spawn := rfl

theorem HostPortSplit.composeHandoff : HostPortSplit.Statement .composeHandoff := rfl

theorem HostPortSplit.speedStep : HostPortSplit.Statement .speedStep := rfl

theorem HostPortSplit.shiftOut (w : SerialWord) : HostPortSplit.Statement (.shiftOut w) := rfl

theorem HostPortSplit.swapCheck : HostPortSplit.Statement .swapCheck := rfl

theorem HostPortSplit.start : HostPortSplit.Statement .start := rfl

end Sys2Proof.Laws
end

