-- ==== Sys2Proof/Laws/Tick.lean ====
section
/-! SUPPORT. What the tick's steps do (R170), one lemma per path of step 3, and how a run of steps unfolds. -/

namespace Sys2Proof.Machine

/-- A run of n + 1 steps whose first step answers a next state is the run of n steps from it. -/
theorem runSteps_succ {n : Nat} {s t : State} (h : step s = .next t) : runSteps (n + 1) s = runSteps n t := by
  have h' : Host.Core.step core s = .next t := h
  simp only [runSteps, Host.Core.run, h']
  rfl

/-- Steps 1 and 2 of the tick: WORK holds the piece at the working placement, BR its bounds result. -/
theorem tickBlit_eq (s : State) :
    tickBlit s = { s with
      work := pieceFrame s.cfg s.pid s.ori s.x s.y
      br := some (boundsOf s.cfg s.pid s.ori s.x s.y) } := rfl

/-- Steps 4 and 5 of the tick as one update. -/
theorem tickFinish_eq (s : State) :
    dropTransients (speedStep (composeHandoff s)) = { s with
      fb0 := if s.active = 0 then s.fb0 else s.board.or s.work
      fb1 := if s.active = 0 then s.board.or s.work else s.fb1
      pend := otherSlot s.active
      pendV := true
      y := if s.speed - 1 = s.level then s.y + 1 else s.y
      speed := if s.speed - 1 = s.level then s.cfg.speedReload else s.speed - 1
      br := none
      ovf := none
      entry := none } := by
  rw [composeHandoff_eq, speedStep_eq]
  rfl

/-- Step 3 commits where the working placement is in bounds and free. -/
theorem tickDecide_commits (s : State) (hb : boundsOf s.cfg s.pid s.ori s.x s.y = .none)
    (hd : disjoint s.board (pieceFrame s.cfg s.pid s.ori s.x s.y) = true) :
    tickDecide (tickBlit s) = { s with
      work := pieceFrame s.cfg s.pid s.ori s.x s.y
      br := some .none
      ovf := some true
      gx := s.x
      gy := s.y
      gori := s.ori } := by
  rw [tickBlit_eq, hb]
  generalize pieceFrame s.cfg s.pid s.ori s.x s.y = w at *
  unfold tickDecide
  simp only [checkOverlap, State.buf, hd]
  rfl

/-- Step 3 reverts and does no more where the working placement is Side. -/
theorem tickDecide_side (s : State) (hb : boundsOf s.cfg s.pid s.ori s.x s.y = .side) :
    tickDecide (tickBlit s) = { s with
      work := pieceFrame s.cfg s.pid s.gori s.gx s.gy
      br := some .side
      ovf := some (disjoint s.board (pieceFrame s.cfg s.pid s.ori s.x s.y))
      x := s.gx
      y := s.gy
      ori := s.gori } := by
  rw [tickBlit_eq, hb]
  unfold tickDecide
  rw [if_pos (.inl (by simp))]
  unfold tickReverted
  rw [revert_eq]
  simp only [checkOverlap, State.buf]
  rw [if_pos trivial]
  rfl

/-- Step 3 where the working placement is Bottom or overlaps: revert, then restart where the shadow placement overlaps too, or
lock, clear rows and spawn. -/
theorem tickDecide_blocked (s : State) (hb : boundsOf s.cfg s.pid s.ori s.x s.y ≠ .side)
    (hd : boundsOf s.cfg s.pid s.ori s.x s.y = .bottom ∨
      disjoint s.board (pieceFrame s.cfg s.pid s.ori s.x s.y) = false) :
    tickDecide (tickBlit s) =
      let u : State := { s with
        work := pieceFrame s.cfg s.pid s.gori s.gx s.gy
        br := some (boundsOf s.cfg s.pid s.ori s.x s.y)
        ovf := some (disjoint s.board (pieceFrame s.cfg s.pid s.gori s.gx s.gy))
        x := s.gx
        y := s.gy
        ori := s.gori }
      if disjoint s.board (pieceFrame s.cfg s.pid s.gori s.gx s.gy) = false then start u
      else spawn (rowClear (lock u)) := by
  rw [tickBlit_eq]
  unfold tickDecide
  rw [if_pos (by
    rcases hd with h | h
    · left; simp [h]
    · right; simp [checkOverlap, State.buf, h])]
  unfold tickReverted
  rw [revert_eq, if_neg (by simpa [checkOverlap] using hb)]
  simp only [checkOverlap, State.buf, Option.some.injEq]
  rfl

end Sys2Proof.Machine
end

