-- ==== Sys2Proof/Tests/Slice0.lean ====
section
/-! SUPPORT. The model's own tests. Expected values come from spec/: the encodings of 30_encoding.md and the vectors of
95_test_vectors.md, named by their ids (T-CB-1 and so on), over that file's example instance. The `witness_` theorems show,
for each statement with hypotheses, concrete values that meet all of them together. -/

namespace Sys2Proof.Tests

open Sys2Proof Sys2Proof.Machine

/-! ## The example instance (95_test_vectors.md section 1) and test states -/

/-- EXAMPLE_CATALOG: a 3-cell bar and a 3-cell L. -/
def exampleCatalog : Catalog :=
  ⟨⟨⟨3, 1, 0x07, 0, 0⟩, ⟨1, 3, 0x01, 0x01, 0x01⟩, ⟨3, 1, 0x07, 0, 0⟩, ⟨1, 3, 0x01, 0x01, 0x01⟩⟩,
   ⟨⟨2, 2, 0x01, 0x03, 0⟩, ⟨2, 2, 0x03, 0x01, 0⟩, ⟨2, 2, 0x03, 0x02, 0⟩, ⟨2, 2, 0x02, 0x03, 0⟩⟩⟩

/-- The example configuration: SPEED_RELOAD = 3, LEVEL_INIT = 0, the default ROWSEL, and the draw of T-WR-6 in FB0. -/
def exampleConfig : Config :=
  { catalog := exampleCatalog
    speedReload := 3
    levelInit := 0
    fbInit0 := ⟨0x11, 0x22, 0x33, 0x44, 0x55, 0x66, 0x77, 0x88⟩
    catalogAdmitted := by decide }

/-- Reset, with the example configuration. -/
def atReset : State :=
  { State.reset with cfg := exampleConfig, fb0 := exampleConfig.fbInit0, fb1 := exampleConfig.fbInit1 }

/-- A running game: slot 0 scanned from row 0, piece 0 at the spawn placement, an empty board, SPEED 3 and LEVEL 0. The start
states of T-TICK differ from it only in what each names. -/
def playing : State :=
  { atReset with
    dispReady := true
    gameReady := true
    oe := true
    ptrace := [(.data, false), (.sclk, false), (.latch, false)]
    x := 3
    gx := 3
    speed := 3 }

/-- `playing` with a working placement and a shadow. -/
def placed (x y : Coord) (o : Orient) (gx gy : Coord) (go : Orient) : State :=
  { playing with x := x, y := y, ori := o, gx := gx, gy := gy, gori := go }

/-- The state an outcome leads to. -/
def after (o : Host.Outcome State Fault Refusal) : State :=
  match o with
  | .next t => t
  | .fault _ => atReset
  | .refused _ => atReset

/-- The working placement of a state. -/
def place (s : State) : Coord × Coord × Orient := (s.x, s.y, s.ori)

/-- The shadow placement of a state. -/
def shadow (s : State) : Coord × Coord × Orient := (s.gx, s.gy, s.gori)

/-- A step on a state with one host word. -/
def stepWord (s : State) (op : Byte) : State := after (step { s with port := [op] })

/-! ## Decoding: the words of R71, R72, R75 and R76 written out bit by bit -/

theorem test_decode_display_words :
    [0b00010000, 0b00010001, 0b00100000, 0b00100001, 0b00110000].map (decodeTableWord 8) =
      [some (.dinit 0), some (.dinit 1), some (.setbuf 0), some (.setbuf 1), some .wrow] := by decide

theorem test_decode_game_words :
    [0b01000000, 0b01010000, 0b01100000].map (decodeTableWord 8) = [some .ginit, some .gstart, some .gtick] := by decide

theorem test_decode_command_words :
    [0b01110000, 0b01110001, 0b01110010, 0b01110011, 0b01110100].map (decodeTableWord 8) =
      [some .gcmdNone, some .gcmdRot, some .gcmdLeft, some .gcmdRight, some .gcmdDown] := by decide

theorem test_decode_unit_identifiers :
    [0b10000000, 0b10000001, 0b10000010, 0b10000011, 0b10000100, 0b10000101, 0b10000110, 0b10000111].map
        (decodeTableWord 8) =
      [some (.catLookup 0 0), some (.checkBounds 0 0 0 0), some (.blit .work 0 0 0 0), some (.checkOverlap .board .work),
        some .clearWork, some (.applyCmd .none), some .commit, some .revert] := by decide

theorem test_decode_sequencer_identifiers :
    [0b10001000, 0b10001001, 0b10001010, 0b10001011, 0b10001100, 0b10001101, 0b10001110, 0b10001111].map
        (decodeTableWord 8) =
      [some .lock, some .rowClear, some .spawn, some .composeHandoff, some .speedStep, some (.shiftOut 0),
        some .swapCheck, some .start] := by decide

/-- R77 and R210: one word for each way a word is rejected (T-DEC-1, 2, 4, 5, 11, 12, 13). -/
theorem test_decode_rejections :
    [0x00, 0x80, 0x12, 0x31, 0x75, 0x7F, 0x78].map decodeHost =
      [.reject .illegalOpcode, .reject .illegalOpcode, .reject .reservedOperand, .reject .reservedOperand,
        .reject .reservedCommand, .reject .reservedOperand, .reject .reservedOperand] := by decide

/-- R79's examples. -/
theorem test_assembler_examples :
    (asmOperation ["DINIT", "FB0"]).map encode = some 0x10 ∧ (asmOperation ["SETBUF", "1"]).map encode = some 0x21 ∧
    (asmOperation ["WROW"]).map encode = some 0x30 ∧ (asmOperation ["GCMD", "LEFT"]).map encode = some 0x72 := by decide

/-- The first lines of program P3, a repetition and a comment, with the words the file gives. -/
theorem test_assembler_lines :
    asmProgram ["BOOT 0                 ; 0x10 0x40 0x50".toList, "STEP LEFT              ; 0x72 0x60".toList,
      "WROW x3".toList, "WAIT 12".toList, "; text".toList] =
      some ([0x10, 0x40, 0x50, 0x72, 0x60, 0x30, 0x30, 0x30] ++ List.replicate 12 0x60) := by decide +kernel

/-- R80's expansions: STEP LEFT and BOOT 0. -/
theorem test_pseudo_expansions :
    wordsOf (expandPseudo (.step .left)) = [0x72, 0x60] ∧ wordsOf (expandPseudo (.boot 0)) = [0x10, 0x40, 0x50] := by decide

/-! ## WellFormed: each check refuses an ill-formed term; admission refuses each broken constraint -/

theorem test_wf_refuses_blit_into_board : Instr.wf (.blit .board 0 0 3 0) = false := by decide

theorem test_wf_refuses_blit_into_slot : Instr.wf (.blit (.fb 0) 0 0 3 0) = false := by decide

theorem test_wf_refuses_overlap_first_operand : Instr.wf (.checkOverlap .work .work) = false := by decide

theorem test_wf_refuses_overlap_second_operand : Instr.wf (.checkOverlap .board (.fb 1)) = false := by decide

theorem test_wf_accepts_the_rules_operands :
    Instr.wf (.blit .work 0 0 3 0) = true ∧ Instr.wf (.checkOverlap .board .work) = true := by decide

/-- EXAMPLE_CATALOG with another first entry. -/
def withFirst (e : CatEntry) : Catalog := { exampleCatalog with p0 := { exampleCatalog.p0 with o0 := e } }

/-- R101 (a) to (d), one broken entry for each constraint: w = 0, h = 9, a bit at column w, a row at h, and a spawn at column 9. -/
theorem test_admission_refuses_broken_entries :
    [withFirst ⟨0, 1, 0, 0, 0⟩, withFirst ⟨3, 9, 7, 0, 0⟩, withFirst ⟨2, 1, 7, 0, 0⟩, withFirst ⟨3, 1, 7, 1, 0⟩,
      withFirst ⟨6, 1, 7, 0, 0⟩].map Catalog.admitted = [false, false, false, false, false] ∧
    exampleCatalog.admitted = true := by decide

/-- R8: a ROWSEL table that selects one row twice is refused; a rotated one-hot table is not. -/
theorem test_admission_of_rowsel :
    rowselAdmitted ⟨1, 1, 4, 8, 16, 32, 64, 128⟩ = false ∧ rowselAdmitted ⟨128, 1, 2, 4, 8, 16, 32, 64⟩ = true ∧
    defaultRowsel.toList = (List.range 8).map (fun c => 1#8 <<< c) := by decide

/-! ## Display operations -/

/-- T-DI-1. -/
theorem test_dinit_from_reset :
    let t := after (exec (.dinit 1) atReset)
    (t.oe, t.active, t.pendV, t.cursor, t.dispReady) = (true, 1, false, 0, true) ∧
    t.ptrace = [(.data, false), (.sclk, false), (.latch, false)] := by decide

/-- T-DI-2: the pending slot is dropped. -/
theorem test_dinit_drops_pending :
    let t := after (exec (.dinit 0) { playing with cursor := 5, pendV := true, pend := 1 })
    (t.active, t.cursor, t.pendV) = (0, 0, false) := by decide

/-- T-SB-1 and T-SB-2. -/
theorem test_setbuf_queues :
    let t := after (exec (.setbuf 1) { playing with cursor := 5 })
    (t.pend, t.pendV, t.active, t.cursor) = (1, true, 0, 5) ∧ (after (exec (.setbuf 0) t)).pend = 0 := by decide

/-- T-WR-1. -/
theorem test_wrow_emits :
    let t := after (exec .wrow { playing with active := 1, fb1 := ⟨0x38, 0, 0, 0, 0, 0, 0, 0⟩ })
    t.ltrace = [(0x38, 0x01)] ∧ t.cursor = 1 ∧ t.ptrace.length = 53 := by decide

/-- T-WR-2: the wrap swaps. -/
theorem test_wrow_swaps_at_wrap :
    let t := after (exec .wrow
      { playing with cursor := 7, fb0 := ⟨0, 0, 0, 0, 0, 0, 0, 0x55⟩, pendV := true, pend := 1 })
    t.ltrace = [(0x55, 0x80)] ∧ (t.cursor, t.active, t.pendV) = (0, 1, false) := by decide

/-- T-SO-1: the data levels before each clock, and the end of the trace. -/
theorem test_shift_out_order :
    let t := after (exec (.shiftOut 0x3801) { playing with ptrace := [] })
    (t.ptrace.filterMap fun e => if e.1 = Line.data then some e.2 else none) =
      [false, false, true, true, true, false, false, false, false, false, false, false, false, false, false, true] ∧
    t.ptrace.length = 50 ∧ t.ptrace.getLast? = some (.latch, false) := by decide

/-- T-SO-1: the chain latches 0x38 far and 0x01 near. -/
theorem test_shift_out_chain :
    let c := chainRun ⟨true, false, false, 0xA5, 0x5A, 0, 0⟩ (shiftEvents 0x3801)
    (c.outFar, c.outNear) = (0x38, 0x01) := by decide

/-- T-WR-4 and T-WR-5, at the swap check. -/
theorem test_swap_check :
    let t := after (exec .swapCheck { playing with cursor := 3, pendV := true, pend := 1 })
    let u := after (exec .swapCheck { playing with cursor := 7, pendV := true, pend := 0 })
    (t.cursor, t.active, t.pendV) = (4, 0, true) ∧ (u.cursor, u.active, u.pendV) = (0, 0, false) := by decide

/-! ## Catalog and collision engine -/

/-- T-CAT-2 and T-CAT-8. -/
theorem test_cat_lookup :
    (after (exec (.catLookup 0 1) playing)).entry = some ⟨1, 3, 0x01, 0x01, 0x01⟩ ∧
    (after (exec (.catLookup 1 3) playing)).entry = some ⟨2, 2, 0x02, 0x03, 0x00⟩ := by decide

/-- T-CB-1, 4, 6, 10 and 13. -/
theorem test_check_bounds :
    [(after (exec (.checkBounds 0 0 5 7) playing)).br, (after (exec (.checkBounds 0 0 15 0) playing)).br,
      (after (exec (.checkBounds 0 0 9 9) playing)).br, (after (exec (.checkBounds 0 1 0 15) playing)).br,
      (after (exec (.checkBounds 1 0 6 7) playing)).br] =
    [some .none, some .side, some .side, some .bottom, some .bottom] := by decide

/-- T-BL-2: a column past 7 is lost. -/
theorem test_blit_clips_column :
    (after (exec (.blit .work 1 0 7 6) playing)).work = ⟨0, 0, 0, 0, 0, 0, 0x80, 0x80⟩ := by decide

/-- T-BL-3: a row past 7 is lost. -/
theorem test_blit_clips_row :
    (after (exec (.blit .work 0 1 2 6) playing)).work = ⟨0, 0, 0, 0, 0, 0, 0x04, 0x04⟩ := by decide

/-- T-OV-2 and T-OV-1. -/
theorem test_check_overlap :
    (after (exec (.checkOverlap .board .work)
      { playing with board := ⟨0, 0x18, 0, 0, 0, 0, 0, 0⟩, work := ⟨0, 0x08, 0, 0, 0, 0, 0, 0⟩ })).ovf = some false ∧
    (after (exec (.checkOverlap .board .work)
      { playing with board := ⟨0x0F, 0, 0, 0, 0, 0, 0, 0⟩, work := ⟨0xF0, 0, 0, 0, 0, 0, 0, 0⟩ })).ovf = some true := by
  decide

/-- T-CW-1. -/
theorem test_clear_work :
    (after (exec .clearWork { playing with work := ⟨0x38, 0x18, 0, 0xFF, 0, 0, 0, 1⟩ })).work = Rows.zero := by decide

/-! ## Game operations -/

/-- R160's example. -/
theorem test_ginit :
    let t := after (exec .ginit { atReset with board := ⟨1, 2, 3, 4, 5, 6, 7, 8⟩ })
    (t.pid, place t, t.speed, t.level, t.gameReady) = (1, (3, 0, 0), 3, 0, true) ∧ t.board = Rows.zero := by decide

/-- R162's example: right after GINIT. -/
theorem test_gstart :
    let t := after (exec .gstart (after (exec .ginit atReset)))
    (t.pid, place t, shadow t) = (0, (3, 0, 0), (3, 0, 0)) := by decide

/-- T-ST-1. -/
theorem test_start :
    let t := after (exec .start { playing with board := ⟨0, 0x38, 8, 0x18, 0x38, 8, 0x18, 0x38⟩, pid := 1, level := 4, speed := 200 })
    (t.board, t.pid, place t, shadow t, t.level, t.speed) = (Rows.zero, 0, (3, 0, 0), (3, 0, 0), 0, 3) := by decide

/-- T-AC-1. -/
theorem test_gcmd_none : place (after (exec .gcmdNone (placed 3 0 0 3 0 0))) = (3, 0, 0) := by decide

/-- T-AC-5: the orientation wraps. -/
theorem test_gcmd_rot : place (after (exec .gcmdRot (placed 0 2 3 3 0 0))) = (0, 2, 0) := by decide

/-- T-AC-3: X wraps below 0, and the shadow stays. -/
theorem test_gcmd_left :
    let t := after (exec .gcmdLeft (placed 0 2 3 0 0 0))
    place t = (15, 2, 3) ∧ shadow t = (0, 0, 0) := by decide

/-- T-AC-4. -/
theorem test_gcmd_right : place (after (exec .gcmdRight (placed 15 2 3 3 0 0))) = (0, 2, 3) := by decide

/-- T-AC-7: Y wraps. -/
theorem test_gcmd_down : place (after (exec .gcmdDown (placed 3 15 0 3 0 0))) = (3, 0, 0) := by decide

/-- T-AC-2 and T-AC-6. -/
theorem test_apply_cmd :
    place (after (exec (.applyCmd .rotate) (placed 3 0 0 3 0 0))) = (3, 0, 1) ∧
    place (after (exec (.applyCmd .down) (placed 0 2 0 3 0 0))) = (0, 3, 0) := by decide

/-- T-CM-1. -/
theorem test_commit : shadow (after (exec .commit (placed 2 4 1 3 4 1))) = (2, 4, 1) := by decide

/-- T-RV-2: the orientation reverts. -/
theorem test_revert :
    let t := after (exec .revert (placed 7 2 0 7 2 1))
    place t = (7, 2, 1) ∧ t.work = ⟨0, 0, 0x80, 0x80, 0x80, 0, 0, 0⟩ := by decide

/-- T-LK-1. -/
theorem test_lock :
    (after (exec .lock { playing with board := ⟨0, 0, 0, 0, 0, 0, 0, 0x1F⟩, work := ⟨0, 0, 0, 0, 0, 0, 0, 0xE0⟩ })).board =
      ⟨0, 0, 0, 0, 0, 0, 0, 0xFF⟩ := by decide

/-- T-RC-7. -/
theorem test_row_clear_four_rows :
    let t := after (exec .rowClear { playing with board := ⟨1, 2, 0xFF, 4, 0xFF, 0xFF, 8, 0xFF⟩, level := 5 })
    (t.board, t.level) = (⟨0, 0, 0, 0, 1, 2, 4, 8⟩, 9) := by decide +kernel

/-- T-RC-8: LEVEL wraps. -/
theorem test_row_clear_level_wraps :
    let t := after (exec .rowClear { playing with board := ⟨0, 0, 0, 0, 0, 0, 0, 0xFF⟩, level := 255 })
    (t.board, t.level) = (Rows.zero, 0) := by decide +kernel

/-- T-SP-1. -/
theorem test_spawn :
    let t := after (exec .spawn (placed 5 7 2 5 7 2))
    (t.pid, place t, shadow t) = (1, (3, 0, 0), (3, 0, 0)) := by decide

/-- T-CH-1 and T-CH-2. -/
theorem test_compose_handoff :
    let s : State := { playing with board := ⟨0, 0, 0, 0, 0, 0, 0, 0x38⟩, work := ⟨8, 0x18, 0, 0, 0, 0, 0, 0⟩ }
    let t := after (exec .composeHandoff s)
    let u := after (exec .composeHandoff { s with active := 1 })
    (t.fb1, t.pend, t.fb0) = (⟨8, 0x18, 0, 0, 0, 0, 0, 0x38⟩, 1, s.fb0) ∧
    (u.fb0, u.pend, u.fb1) = (⟨8, 0x18, 0, 0, 0, 0, 0, 0x38⟩, 0, s.fb1) := by decide

/-- T-SS-2: gravity. -/
theorem test_speed_step_gravity :
    let t := after (exec .speedStep { playing with speed := 1, y := 4 })
    (t.speed, t.y) = (3, 5) := by decide

/-- T-SS-3 and T-SS-6: SPEED wraps. -/
theorem test_speed_step_wraps :
    let t := after (exec .speedStep { playing with speed := 0, y := 4 })
    let u := after (exec .speedStep { playing with speed := 0, level := 255, y := 4 })
    (t.speed, t.y, u.speed, u.y) = (255, 4, 3, 5) := by decide

/-- T-TICK-8: a lock that clears a row, with its ghost frame. -/
theorem test_gtick_locks_and_clears :
    let t := after (exec .gtick { placed 5 8 0 5 7 0 with board := ⟨0, 0, 0, 0, 0, 0, 8, 0x1F⟩ })
    (t.board, t.level, t.pid, t.fb1, t.speed) = (⟨0, 0, 0, 0, 0, 0, 0, 8⟩, 1, 1, ⟨0, 0, 0, 0, 0, 0, 0, 0xE8⟩, 2) := by
  decide +kernel

/-- T-TICK-5: game over. -/
theorem test_gtick_game_over :
    let t := after (exec .gtick { playing with board := ⟨0, 0x38, 8, 0x18, 0x38, 8, 0x18, 0x38⟩, pid := 1 })
    (t.board, t.pid, t.fb1, t.speed) = (Rows.zero, 0, ⟨8, 0x18, 0, 0, 0, 0, 0, 0⟩, 2) := by decide +kernel

/-! ## The port, faults and the halt -/

/-- T-DEC-1, 2, 4, 6, 9 and 11 from reset. -/
theorem test_faults_from_reset :
    [0x00, 0x80, 0x12, 0x20, 0x50, 0x75].map (fun op => ((stepWord atReset op).fault, (stepWord atReset op).faultOp)) =
      [(1, 0x00), (1, 0x80), (2, 0x12), (4, 0x20), (5, 0x50), (3, 0x75)] := by decide +kernel

/-- T-DEC-15 and T-DEC-17: GTICK needs both parts, and the display check comes first. -/
theorem test_gtick_guards :
    (stepWord (stepWord atReset 0x10) 0x60).fault = 5 ∧ (stepWord (stepWord atReset 0x40) 0x60).fault = 4 := by
  decide +kernel

/-- T-DEC-19: the halted block ignores DINIT. -/
theorem test_halt_ignores_dinit :
    let t := stepWord { atReset with fault := 1 } 0x10
    (t.fault, t.faultOp, t.dispReady) = (1, 0, false) := by decide +kernel

/-- `withFetchWord` places the word that the next step runs (0x11 is DINIT 1). -/
theorem test_step_runs_fetched_word :
    let t := after (step (State.withFetchWord atReset 8 0x11))
    (t.dispReady, t.active, t.port) = (true, 1, []) := by decide +kernel

/-! ## Witnesses: values that meet each statement's hypotheses together -/

/-- Words that meet each side of the rejected-opcode clause, at the ends of its ranges. -/
theorem witness_HostPortAcceptsThirteenWords :
    (∀ op ∈ [0x00#8, 0x0F#8], op.extractLsb' 4 4 = 0x0) ∧ (∀ op ∈ [0x80#8, 0xFF#8], 0x8 ≤ op.extractLsb' 4 4) ∧
    (∀ op ∈ [0x00#8, 0x0F#8, 0x80#8, 0xFF#8], decodeHost op = .reject .illegalOpcode) := by decide

theorem witness_MicroIdentifiersAreNoHostWords :
    (0x80#8).getLsbD 7 = true ∧ ({ atReset with port := [0x80] } : State).fault = 0 ∧
    ({ atReset with port := [0x80] } : State).port = 0x80 :: [] := by decide

theorem witness_StepRunsDecodedOperation :
    ({ atReset with port := [0x11, 0x40] } : State).port = 0x11 :: [0x40] ∧ decodeHost 0x11 = .ok (.dinit 1) ∧
    (Instr.dinit 1).wf = true ∧ atReset.port = [] := by decide

/-- One word and state for each clause, in the order of the clauses. -/
theorem witness_WordsAreCheckedInOrder :
    [stepWord { atReset with fault := 2 } 0x00, stepWord atReset 0x0F, stepWord atReset 0x1F, stepWord atReset 0x61,
      stepWord atReset 0x7F, stepWord atReset 0x77, stepWord atReset 0x60, stepWord atReset 0x74,
      stepWord atReset 0x40].map (fun t => t.fault) = [2, 1, 2, 2, 2, 3, 4, 5, 0] := by decide +kernel

theorem witness_HaltedBlockIgnoresWords :
    ({ atReset with fault := 5, port := [0x10] } : State).fault ≠ 0 ∧ Instr.isHost (.dinit 0) = true := by decide

/-- States for the three groups of clauses: neither part ready, only the display ready, both ready. -/
theorem witness_ReadinessGuardsFault :
    (atReset.fault = 0 ∧ atReset.dispReady = false ∧ atReset.gameReady = false) ∧
    (let s : State := { atReset with dispReady := true }
     s.fault = 0 ∧ s.gameReady = false ∧ s.dispReady = true) ∧
    (playing.fault = 0 ∧ playing.dispReady = true ∧ playing.gameReady = true) ∧
    Instr.isHost .gtick = true ∧ Instr.isHost (gcmd .left) = true := by decide

/-- A reserved operand at each end, and the two states the clauses ask for. -/
theorem witness_DinitInitialisesDisplay :
    (2#4).extractLsb' 1 3 ≠ 0 ∧ (15#4).extractLsb' 1 3 ≠ 0 ∧ atReset.fault = 0 := by decide

theorem witness_SetbufQueuesSlot :
    (2#4).extractLsb' 1 3 ≠ 0 ∧ (atReset.fault = 0 ∧ atReset.dispReady = false) ∧
    (playing.fault = 0 ∧ playing.dispReady = true) := by decide

/-- The executing clause at the last row, where the cursor wraps, with and without a pending slot. -/
theorem witness_WrowEmitsRowAndAdvances :
    (1#4 ≠ 0) ∧ (atReset.fault = 0 ∧ atReset.dispReady = false) ∧
    (∀ v ∈ [true, false], let s : State := { playing with cursor := 7, pendV := v }
      s.fault = 0 ∧ s.dispReady = true) := by decide

/-- One state for each clause, at row 6, the last row before the wrap. -/
theorem witness_SwapCheckAdvancesCursor :
    ({ playing with cursor := 6 } : State).cursor.toNat < 7 ∧
    (let s : State := { playing with cursor := 7, pendV := false }
     s.cursor = 7 ∧ s.pendV = false) ∧
    (let s : State := { playing with cursor := 7, pendV := true }
     s.cursor = 7 ∧ s.pendV = true) := by decide

theorem witness_ChainLatchesSerialWord :
    (⟨true, false, false, 0xA5, 0x5A, 0, 0⟩ : Chain).sclk = false ∧
    (⟨true, false, false, 0xA5, 0x5A, 0, 0⟩ : Chain).latch = false := by decide

theorem playing_ready : Ready playing := ⟨by decide, by decide, by decide⟩

/-- T-WR-6's operations: three rows, a tick, five rows. -/
theorem witness_ScanShowsOneWholeFrame :
    Ready playing ∧ playing.cursor = 0 ∧
    (∀ i ∈ List.replicate 3 Instr.wrow ++ [Instr.gtick] ++ List.replicate 5 Instr.wrow,
      i.isHost = true ∧ ∀ slot, i ≠ .dinit slot) ∧
    (List.replicate 3 Instr.wrow ++ [Instr.gtick] ++ List.replicate 5 Instr.wrow).count .wrow ≤ 8 :=
  ⟨playing_ready, by decide, by decide, by decide⟩

/-- A tick at row 5, then a command and the three rows up to the wrap. -/
theorem witness_TickFrameShownAtNextWrap :
    Ready { playing with cursor := 5 } ∧
    exec .gtick { playing with cursor := 5 } = .next (tick { playing with cursor := 5 }) ∧
    (∀ i ∈ [Instr.wrow, gcmd .left, .wrow, .gstart, .wrow],
      i = .wrow ∨ i = .ginit ∨ i = .gstart ∨ ∃ c, i = gcmd c) ∧
    [Instr.wrow, gcmd .left, .wrow, .gstart, .wrow].count .wrow =
      8 - (tick { playing with cursor := 5 }).cursor.toNat := by
  refine ⟨⟨by decide, by decide, by decide⟩, rfl, ?_, by decide +kernel⟩
  intro i hi
  simp only [List.mem_cons, List.not_mem_nil, or_false] at hi
  rcases hi with rfl | rfl | rfl | rfl | rfl
  · exact .inl rfl
  · exact .inr (.inr (.inr ⟨.left, rfl⟩))
  · exact .inl rfl
  · exact .inr (.inr (.inl rfl))
  · exact .inl rfl

theorem witness_RowSelectBytesRotate :
    Ready { playing with cursor := 6 } ∧
    ∀ i ∈ ([.wrow, .gtick, .wrow, .setbuf 1, .wrow] : List Instr), i.isHost = true ∧ ∀ slot, i ≠ .dinit slot :=
  ⟨⟨by decide, by decide, by decide⟩, by decide⟩

/-- A tick in the middle of the last row's WROW, where the swap check will swap. -/
theorem witness_PreemptedWrowIsAtomicWrow :
    let s : State := { playing with cursor := 7 }
    Ready s ∧ (Instr.gtick = .gtick ∨ (∃ c, Instr.gtick = gcmd c) ∨ ∃ slot, Instr.gtick = .setbuf slot) ∧
    exec .gtick (scanRow s) = .next (tick (scanRow s)) ∧ exec .gtick s = .next (tick s) :=
  ⟨⟨by decide, by decide, by decide⟩, .inl rfl, rfl, rfl⟩

theorem witness_OnlyTickWritesInactiveSlot :
    step { playing with port := [0x30] } = .next (writeRow { playing with port := [] }) ∧
    ({ playing with port := [0x30] } : State).port.head? ≠ some 0x60 := ⟨rfl, by decide⟩

theorem witness_CleanFirstFrameSequence : atReset.fault = 0 := by decide

/-- One placement for each clause, at the edge of each: T-CB-2, T-CB-8 and T-CB-7. -/
theorem witness_CheckBoundsClassifies :
    (∃ e, exampleConfig.catalog.entries[4 * (0#1).toNat + (0#2).toNat]? = some e ∧ (6#4).toNat + e.w.toNat > 8) ∧
    (∃ e, exampleConfig.catalog.entries[4 * (0#1).toNat + (1#2).toNat]? = some e ∧
      (7#4).toNat + e.w.toNat ≤ 8 ∧ (6#4).toNat + e.h.toNat > 8) ∧
    (∃ e, exampleConfig.catalog.entries[4 * (0#1).toNat + (1#2).toNat]? = some e ∧
      (7#4).toNat + e.w.toNat ≤ 8 ∧ (5#4).toNat + e.h.toNat ≤ 8) :=
  ⟨⟨⟨3, 1, 7, 0, 0⟩, by decide⟩, ⟨⟨1, 3, 1, 1, 1⟩, by decide⟩, ⟨⟨1, 3, 1, 1, 1⟩, by decide⟩⟩

theorem witness_WrappedPositionIsOutOfBounds :
    9 ≤ (9#4).toNat ∧ boundsOf exampleConfig 0 0 3 9 ≠ .side := by decide

/-- T-CB-1. -/
theorem witness_BlitWritesFootprint : boundsOf exampleConfig 0 0 5 7 = .none := by decide

/-- T-OV-1, and T-OV-5 whose one common cell is the last. -/
theorem witness_CheckOverlapTestsEveryRow :
    (∀ i : Fin 8, (⟨0x0F, 0, 0, 0, 0, 0, 0, 0⟩ : Rows).get i &&& (⟨0xF0, 0, 0, 0, 0, 0, 0, 0⟩ : Rows).get i = 0) ∧
    (∃ i : Fin 8, (⟨0, 0, 0, 0, 0, 0, 0, 1⟩ : Rows).get i &&& (⟨0, 0, 0, 0, 0, 0, 0, 1⟩ : Rows).get i ≠ 0) := by
  decide

theorem witness_GinitInitialisesGame : (1#4 ≠ 0) ∧ atReset.fault = 0 := by decide

theorem witness_GstartPerformsStart :
    (1#4 ≠ 0) ∧ (atReset.fault = 0 ∧ atReset.gameReady = false) ∧ (playing.fault = 0 ∧ playing.gameReady = true) := by
  decide

theorem witness_GcmdAppliesCommand :
    5 ≤ 5#3 ∧ (atReset.fault = 0 ∧ atReset.gameReady = false) ∧ (playing.fault = 0 ∧ playing.gameReady = true) := by
  decide

/-- A board on which a row is full and a row is not. -/
theorem witness_RowClearScansOnce :
    (⟨0, 0, 0, 0, 0, 0, 0x7F, 0xFF⟩ : Rows).get 7 = 0xFF ∧ (⟨0, 0, 0, 0, 0, 0, 0x7F, 0xFF⟩ : Rows).get 6 ≠ 0xFF := by
  decide

/-- Both values of ACTIVE. -/
theorem witness_ComposeHandoffQueuesFrame :
    playing.active = 0 ∧ ({ playing with active := 1 } : State).active = 1 := by decide

/-- T-SS-6 and T-SS-3: SPEED = 0 wraps to 255. -/
theorem witness_SpeedStepCountsDown :
    (let s : State := { playing with speed := 0, level := 255 }
     (s.speed.toNat + 255) % 256 = s.level.toNat) ∧
    (let s : State := { playing with speed := 0, level := 0 }
     (s.speed.toNat + 255) % 256 ≠ s.level.toNat) := by decide

theorem witness_GravityPeriodLaw : playing.speed = playing.cfg.speedReload := by decide

/-- T-TICK-1. -/
theorem witness_TickCommitsFreePlacement :
    let s := placed 2 4 1 3 4 1
    Ready s ∧ boundsOf s.cfg s.pid s.ori s.x s.y = .none ∧
    disjoint s.board (pieceFrame s.cfg s.pid s.ori s.x s.y) = true :=
  ⟨⟨by decide, by decide, by decide⟩, by decide, by decide⟩

/-- T-TICK-2. -/
theorem witness_TickRevertsSideViolation :
    let s := placed 15 1 0 0 0 0
    Ready s ∧ boundsOf s.cfg s.pid s.ori s.x s.y = .side := ⟨⟨by decide, by decide, by decide⟩, by decide⟩

/-- T-TICK-4, an overlap, and T-TICK-3, a Bottom violation. -/
theorem witness_TickLocksBlockedPiece :
    ∀ s ∈ [({ placed 2 7 0 3 7 0 with board := ⟨0, 0, 0, 0, 0, 0, 0, 4⟩ } : State), placed 3 8 0 3 7 0],
      (s.fault = 0 ∧ s.dispReady = true ∧ s.gameReady = true) ∧ boundsOf s.cfg s.pid s.ori s.x s.y ≠ .side ∧
      (boundsOf s.cfg s.pid s.ori s.x s.y = .bottom ∨
        disjoint s.board (pieceFrame s.cfg s.pid s.ori s.x s.y) = false) ∧
      disjoint s.board (pieceFrame s.cfg s.pid s.gori s.gx s.gy) = true := by decide

/-- T-TICK-5. -/
theorem witness_TickRestartsAtGameOver :
    let s : State := { playing with board := ⟨0, 0x38, 8, 0x18, 0x38, 8, 0x18, 0x38⟩, pid := 1 }
    (s.fault = 0 ∧ s.dispReady = true ∧ s.gameReady = true) ∧ boundsOf s.cfg s.pid s.ori s.x s.y ≠ .side ∧
    (boundsOf s.cfg s.pid s.ori s.x s.y = .bottom ∨
      disjoint s.board (pieceFrame s.cfg s.pid s.ori s.x s.y) = false) ∧
    disjoint s.board (pieceFrame s.cfg s.pid s.gori s.gx s.gy) = false := by decide

theorem witness_TickLeavesShadowPlusGravity :
    Ready playing ∧ exec .gtick playing = .next (tick playing) := ⟨playing_ready, rfl⟩

/-- Three Lefts from x = 2 end at x = 15, a Side violation, whose tick undoes them. -/
theorem witness_SideReversionUndoesEveryCommand :
    Ready (placed 2 0 0 2 0 0) ∧
    boundsOf exampleConfig 0 0 (after (runSteps 3 (withHostOps ([.left, .left, .left].map gcmd) (placed 2 0 0 2 0 0)))).x 0 =
      .side := ⟨⟨by decide, by decide, by decide⟩, by decide +kernel⟩

/-- The state after boot meets the invariant. -/
theorem playing_meets_invariant : BlockInv playing where
  faultLegal := by decide
  readyDriven := by decide
  undrivenEmpty := by decide
  clocksIdle := by decide
  linesHold := by intro _ l; cases l <;> decide
  shadowInBounds := by decide
  boardCleared := by decide
  transientsIdle := by decide

theorem witness_OneCommandKeepsPlacementNear :
    Ready playing ∧ BlockInv playing ∧ exec .gtick playing = .next (tick playing) ∧
    ∃ u, exec (gcmd .left) (tick playing) = .next u := ⟨playing_ready, playing_meets_invariant, rfl, _, rfl⟩

/-- T-TICK-3: a lock that fills no row. -/
theorem witness_LockFrameIsBoardWithoutClear :
    let s := placed 3 8 0 3 7 0
    (s.fault = 0 ∧ s.dispReady = true ∧ s.gameReady = true) ∧ tickPath s = .locks ∧
    (∀ i, s.board.get i ||| (pieceFrame s.cfg s.pid s.gori s.gx s.gy).get i ≠ 0xFF) ∧
    ∃ t, exec .gtick s = .next t := ⟨by decide, by decide, by decide, _, rfl⟩

/-- One state for each path: T-TICK-1, 2, 3 and 5. -/
theorem witness_TickPathsChangeOnlyTheirState :
    [placed 2 4 1 3 4 1, placed 15 1 0 0 0 0, placed 3 8 0 3 7 0,
      { playing with board := ⟨0, 0x38, 8, 0x18, 0x38, 8, 0x18, 0x38⟩, pid := 1 }].map tickPath =
      [.commits, .revertsSide, .locks, .gameOver] ∧ Ready playing ∧ ∃ t, exec .gtick playing = .next t :=
  ⟨by decide, playing_ready, _, rfl⟩

theorem witness_DinitAndGinitCommute :
    atReset.fault = 0 ∧ (∃ u, exec (.dinit 1) atReset = .next u) ∧ ∃ v, exec .ginit atReset = .next v :=
  ⟨by decide, ⟨_, rfl⟩, _, rfl⟩

/-- A running block and a halted one. -/
theorem witness_StepKeepsCatalogTracesAndFault :
    (∃ t, step { playing with port := [0x30] } = .next t) ∧ playing.dispReady = true ∧ playing.gameReady = true ∧
    (∃ t, step { atReset with fault := 4, port := [0x10] } = .next t) ∧
    ({ atReset with fault := 4, port := [0x10] } : State).fault ≠ 0 :=
  ⟨⟨_, rfl⟩, by decide, by decide, ⟨_, rfl⟩, by decide⟩

theorem witness_StepKeepsInvariant :
    BlockInv playing ∧ ∃ t, step playing = .next t := ⟨playing_meets_invariant, _, rfl⟩

/-- Reset with other values in registers that R240 leaves unspecified, and a word waiting. -/
theorem witness_UnspecifiedRegistersNeverShow :
    AgreeWhereWritten { atReset with port := [0x10] }
      { atReset with port := [0x10], cursor := 5, pid := 1, x := 9, level := 7, board := ⟨1, 2, 3, 4, 5, 6, 7, 8⟩ } := by
  constructor <;> decide

end Sys2Proof.Tests
end

section
/-! The host operations among the operations, and what their words are made of (30_encoding.md R70 to R76). -/

namespace Sys2Proof

/-- The rows of formats H0, HS and HC (R75) as the cases of an operation known to be a host operation. -/
theorem Instr.hostCases {motive : (i : Instr) → i.isHost = true → Prop} (dinit : ∀ s, motive (.dinit s) rfl)
    (setbuf : ∀ s, motive (.setbuf s) rfl) (wrow : motive .wrow rfl) (ginit : motive .ginit rfl)
    (gstart : motive .gstart rfl) (gtick : motive .gtick rfl) (gcmd : ∀ c, motive (gcmd c) (by cases c <;> rfl))
    (i : Instr) (h : i.isHost = true) : motive i h := by
  cases i with
  | dinit s => exact dinit s
  | setbuf s => exact setbuf s
  | wrow => exact wrow
  | ginit => exact ginit
  | gstart => exact gstart
  | gtick => exact gtick
  | gcmdNone => exact gcmd .none
  | gcmdRot => exact gcmd .rotate
  | gcmdLeft => exact gcmd .left
  | gcmdRight => exact gcmd .right
  | gcmdDown => exact gcmd .down
  | _ => cases h

/-- The operation needs DISP_READY (R213). -/
def Instr.needsDisplay : Instr → Bool
  | .setbuf _ | .wrow | .gtick => true
  | _ => false

/-- The operation needs GAME_READY (R213). -/
def Instr.needsGame : Instr → Bool
  | .gstart | .gtick | .gcmdNone | .gcmdRot | .gcmdLeft | .gcmdRight | .gcmdDown => true
  | _ => false

/-- A word is its opcode field followed by its operand field (R70). -/
theorem opcodeOf_append_operandOf (op : Byte) : opcodeOf op ++ operandOf op = op := by
  apply BitVec.eq_of_toNat_eq
  simp only [opcodeOf, operandOf, BitVec.toNat_append, BitVec.extractLsb'_toNat]
  rw [← Nat.shiftLeft_add_eq_or_of_lt (by omega)]
  simp only [Nat.shiftLeft_eq, Nat.shiftRight_eq_div_pow]
  omega

/-- A word is known from its two fields. -/
theorem eq_of_fields {op : Byte} {opc opd : BitVec 4} (hc : opcodeOf op = opc) (hd : operandOf op = opd) :
    op = opc ++ opd := by
  rw [← hc, ← hd, opcodeOf_append_operandOf]

/-- The opcodes 0x8 to 0xF are those with OP[7] = 1 (R76). -/
theorem le_opcodeOf_iff (op : Byte) : 0x8 ≤ opcodeOf op ↔ op.getLsbD 7 = true := by
  have hmsb : (opcodeOf op).msb = op.getLsbD 7 := by simp [opcodeOf, BitVec.msb_eq_getLsbD_last]
  rw [← hmsb, BitVec.msb_eq_decide, decide_eq_true_iff, BitVec.le_def]
  rfl

theorem opcodeOf_cases {op : Byte} (h : ¬(opcodeOf op = 0x0 ∨ 0x8 ≤ opcodeOf op)) :
    opcodeOf op = 0x1 ∨ opcodeOf op = 0x2 ∨ opcodeOf op = 0x3 ∨ opcodeOf op = 0x4 ∨ opcodeOf op = 0x5 ∨
      opcodeOf op = 0x6 ∨ opcodeOf op = 0x7 := by
  generalize opcodeOf op = c at *
  revert c
  decide

/-- Format HS: with OP[3:1] = 000 the operand is the slot (R71). -/
theorem slotOperand_cases {d : BitVec 4} (h : d.extractLsb' 1 3 = 0) : d = 0 ∨ d = 1 := by
  revert d
  decide

/-- Format HC: with OP[3] = 0 and no reserved C, the operand is a command's code (R71, R72). -/
theorem commandOperand_cases {d : BitVec 4} (hbit : d.getLsbD 3 ≠ true) (hC : ¬5 ≤ d.extractLsb' 0 3) :
    ∃ c : Command, d = (commandCode c).setWidth 4 := by
  have hd : d = 0 ∨ d = 1 ∨ d = 2 ∨ d = 3 ∨ d = 4 := by
    revert d
    decide
  rcases hd with rfl | rfl | rfl | rfl | rfl
  · exact ⟨.none, rfl⟩
  · exact ⟨.rotate, rfl⟩
  · exact ⟨.left, rfl⟩
  · exact ⟨.right, rfl⟩
  · exact ⟨.down, rfl⟩

/-- GCMD's word is opcode 7 with the command's code (R72, R75). -/
theorem encode_gcmd (c : Command) : encode (gcmd c) = (0x7 : BitVec 4) ++ (commandCode c).setWidth 4 := by
  cases c <;> rfl

/-- The opcodes that need DISP_READY, as R77 lists them. -/
theorem needsDisplay_iff {i : Instr} (h : i.isHost = true) :
    i.needsDisplay = true ↔
      opcodeOf (encode i) = 0x2 ∨ opcodeOf (encode i) = 0x3 ∨ opcodeOf (encode i) = 0x6 := by
  cases i, h using Instr.hostCases with
  | dinit s => revert s; decide
  | setbuf s => revert s; decide
  | gcmd c => cases c <;> decide
  | _ => decide

/-- The opcodes that need GAME_READY, as R77 lists them. -/
theorem needsGame_iff {i : Instr} (h : i.isHost = true) :
    i.needsGame = true ↔
      opcodeOf (encode i) = 0x5 ∨ opcodeOf (encode i) = 0x6 ∨ opcodeOf (encode i) = 0x7 := by
  cases i, h using Instr.hostCases with
  | dinit s => revert s; decide
  | setbuf s => revert s; decide
  | gcmd c => cases c <;> decide
  | _ => decide

/-! ## The host port's decoder: what each failing check answers, and which words pass them all (R77) -/

theorem decodeHost_illegalOpcode {op : Byte} (h : opcodeOf op = 0x0 ∨ 0x8 ≤ opcodeOf op) :
    decodeHost op = .reject .illegalOpcode := if_pos h

theorem decodeHost_reservedSlotBits {op : Byte} (hc : opcodeOf op = 0x1 ∨ opcodeOf op = 0x2)
    (hd : (operandOf op).extractLsb' 1 3 ≠ 0) : decodeHost op = .reject .reservedOperand := by
  rcases hc with hc | hc <;> simpa [decodeHost, hc] using hd

theorem decodeHost_reservedOperand {op : Byte}
    (hc : opcodeOf op = 0x3 ∨ opcodeOf op = 0x4 ∨ opcodeOf op = 0x5 ∨ opcodeOf op = 0x6) (hd : operandOf op ≠ 0) :
    decodeHost op = .reject .reservedOperand := by
  rcases hc with hc | hc | hc | hc <;> simpa [decodeHost, hc] using hd

theorem decodeHost_reservedCommandBit {op : Byte} (hc : opcodeOf op = 0x7) (hd : (operandOf op).getLsbD 3 = true) :
    decodeHost op = .reject .reservedOperand := by
  simp [decodeHost, hc, hd]

/-- The command field's reserved values 5, 6 and 7 (R72). -/
theorem gcmdOf_reserved {c : BitVec 3} (h : 5 ≤ c) : gcmdOf c = .reject .reservedCommand := by
  revert c
  decide

/-- C is the low three bits of the operand field (R74). -/
theorem commandFieldOf_eq (op : Byte) : commandFieldOf op = (operandOf op).extractLsb' 0 3 := by
  simp [commandFieldOf, operandOf]

theorem decodeHost_reservedCommand {op : Byte} (hc : opcodeOf op = 0x7) (hbit : (operandOf op).getLsbD 3 ≠ true)
    (hC : 5 ≤ (operandOf op).extractLsb' 0 3) : decodeHost op = .reject .reservedCommand := by
  rw [← commandFieldOf_eq] at hC
  simpa [decodeHost, hc, gcmdOf_reserved hC] using hbit

/-- The host port reads a host operation back from its word alone. -/
theorem decodeHost_encode {i : Instr} (h : i.isHost = true) : decodeHost (encode i) = .ok i := by
  cases i, h using Instr.hostCases with
  | dinit s => revert s; decide
  | setbuf s => revert s; decide
  | gcmd c => cases c <;> decide
  | _ => decide

/-- A word that fails none of R77's checks on its bits is the word of a host operation. -/
theorem exists_host_word {op : Byte} (hopc : ¬(opcodeOf op = 0x0 ∨ 0x8 ≤ opcodeOf op))
    (hslot : ¬((opcodeOf op = 0x1 ∨ opcodeOf op = 0x2) ∧ (operandOf op).extractLsb' 1 3 ≠ 0))
    (hnone : ¬((opcodeOf op = 0x3 ∨ opcodeOf op = 0x4 ∨ opcodeOf op = 0x5 ∨ opcodeOf op = 0x6) ∧ operandOf op ≠ 0))
    (hbit : ¬(opcodeOf op = 0x7 ∧ (operandOf op).getLsbD 3 = true))
    (hC : ¬(opcodeOf op = 0x7 ∧ 5 ≤ (operandOf op).extractLsb' 0 3)) :
    ∃ i : Instr, i.isHost = true ∧ encode i = op := by
  have slotBit (h : opcodeOf op = 0x1 ∨ opcodeOf op = 0x2) : operandOf op = 0 ∨ operandOf op = 1 :=
    slotOperand_cases (Classical.not_not.mp fun hd => hslot ⟨h, hd⟩)
  have noOperand (h : opcodeOf op = 0x3 ∨ opcodeOf op = 0x4 ∨ opcodeOf op = 0x5 ∨ opcodeOf op = 0x6) :
      operandOf op = 0 := Classical.not_not.mp fun hd => hnone ⟨h, hd⟩
  rcases opcodeOf_cases hopc with h | h | h | h | h | h | h
  · rcases slotBit (.inl h) with hd | hd
    · exact ⟨.dinit 0, rfl, (eq_of_fields h hd).symm⟩
    · exact ⟨.dinit 1, rfl, (eq_of_fields h hd).symm⟩
  · rcases slotBit (.inr h) with hd | hd
    · exact ⟨.setbuf 0, rfl, (eq_of_fields h hd).symm⟩
    · exact ⟨.setbuf 1, rfl, (eq_of_fields h hd).symm⟩
  · exact ⟨.wrow, rfl, (eq_of_fields h (noOperand (by simp [h]))).symm⟩
  · exact ⟨.ginit, rfl, (eq_of_fields h (noOperand (by simp [h]))).symm⟩
  · exact ⟨.gstart, rfl, (eq_of_fields h (noOperand (by simp [h]))).symm⟩
  · exact ⟨.gtick, rfl, (eq_of_fields h (noOperand (by simp [h]))).symm⟩
  · obtain ⟨c, hd⟩ := commandOperand_cases (fun hb => hbit ⟨h, hb⟩) fun hc => hC ⟨h, hc⟩
    exact ⟨gcmd c, by cases c <;> rfl, by rw [encode_gcmd, eq_of_fields h hd]⟩

/-- A decoded word is the word of a host operation: a word that fails a check is rejected. -/
theorem exists_host_word_of_decodeHost_ok {op : Byte} {i : Instr} (h : decodeHost op = .ok i) :
    ∃ j : Instr, j.isHost = true ∧ encode j = op := by
  have notRejected (c : FaultCode) : decodeHost op ≠ .reject c := by simp [h]
  apply exists_host_word
  · exact fun hc => notRejected _ (decodeHost_illegalOpcode hc)
  · exact fun ⟨hc, hd⟩ => notRejected _ (decodeHost_reservedSlotBits hc hd)
  · exact fun ⟨hc, hd⟩ => notRejected _ (decodeHost_reservedOperand hc hd)
  · exact fun ⟨hc, hd⟩ => notRejected _ (decodeHost_reservedCommandBit hc hd)
  · rintro ⟨hc, hC⟩
    by_cases hbit : (operandOf op).getLsbD 3 = true
    · exact notRejected _ (decodeHost_reservedCommandBit hc hbit)
    · exact notRejected _ (decodeHost_reservedCommand hc hbit hC)

/-- The host port accepts exactly the host operations' words, each as its own operation (R75). -/
theorem decodeHost_ok_iff (op : Byte) (i : Instr) : decodeHost op = .ok i ↔ i.isHost = true ∧ encode i = op := by
  constructor
  · intro h
    obtain ⟨j, hj, rfl⟩ := exists_host_word_of_decodeHost_ok h
    have hji : j = i := Decoded.ok.inj ((decodeHost_encode hj).symm.trans h)
    exact hji ▸ ⟨hj, rfl⟩
  · rintro ⟨hi, rfl⟩
    exact decodeHost_encode hi

end Sys2Proof
end

section
/-! The host port's step (R77): what a word does to a halted and to a running block, and the host operations' meanings. -/

namespace Sys2Proof.Machine

/-- The rule's own effect of a host operation, once its guards have passed (R75). -/
def hostEffect : Instr → State → State
  | .dinit slot => displayInit slot
  | .setbuf slot => queueSlot slot
  | .wrow => writeRow
  | .ginit => gameInit
  | .gstart => start
  | .gtick => tick
  | .gcmdNone => applyCmd .none
  | .gcmdRot => applyCmd .rotate
  | .gcmdLeft => applyCmd .left
  | .gcmdRight => applyCmd .right
  | .gcmdDown => applyCmd .down
  | _ => id

/-- A host operation is its effect behind the guards of R213, with its own word for FAULT_OP. -/
theorem exec_host {i : Instr} (h : i.isHost = true) (s : State) :
    exec i s = .next (guarded (encode i) i.needsDisplay i.needsGame (hostEffect i) s) := by
  cases i, h using Instr.hostCases with
  | gcmd c => cases c <;> rfl
  | _ => rfl

/-- The display guard is checked first (R214). -/
theorem exec_host_displayNotReady {i : Instr} {s : State} (hi : i.isHost = true) (h0 : s.fault = 0)
    (hneeds : i.needsDisplay = true) (hd : s.dispReady = false) :
    exec i s = .next (raiseFault .displayNotReady (encode i) s) := by
  rw [exec_host hi, guarded, if_neg (by simp [h0]), if_pos ⟨hneeds, hd⟩]

/-- The game guard decides where the display guard passes (R213). -/
theorem exec_host_gameNotReady {i : Instr} {s : State} (hi : i.isHost = true) (h0 : s.fault = 0)
    (hdisp : ¬(i.needsDisplay = true ∧ s.dispReady = false)) (hneeds : i.needsGame = true) (hg : s.gameReady = false) :
    exec i s = .next (raiseFault .gameNotReady (encode i) s) := by
  rw [exec_host hi, guarded, if_neg (by simp [h0]), if_neg hdisp, if_pos ⟨hneeds, hg⟩]

/-- A halted block drops the next word (R212). -/
theorem step_halted {s : State} {op : Byte} {rest : List Byte} (hp : s.port = op :: rest) (hf : s.fault ≠ 0) :
    step s = .next { s with port := rest } := by
  rw [step_word hp]
  exact if_pos hf

/-- A running block faults on a word the decoder rejects (R211). -/
theorem step_reject {s : State} {op : Byte} {rest : List Byte} {c : FaultCode} (hp : s.port = op :: rest)
    (h0 : s.fault = 0) (hd : decodeHost op = .reject c) :
    step s = .next { s with port := rest, fault := faultCode c, faultOp := op } := by
  rw [step_word hp]
  simp only [acceptWord, h0, hd]
  rfl

/-- A running block performs the host operation of the next word. -/
theorem step_host {s : State} {i : Instr} {rest : List Byte} (hi : i.isHost = true) (hp : s.port = encode i :: rest)
    (h0 : s.fault = 0) : step s = exec i { s with port := rest } := by
  rw [step_word hp]
  simp only [acceptWord, h0, decodeHost_encode hi]
  rfl

end Sys2Proof.Machine
end

section
/-! The statements of the encoding family. -/

namespace Sys2Proof.Proofs
open Sys2Proof Sys2Proof.Machine

/-- Settles O3: a word the decoder accepts fails no check of R77, so its fields spell a host operation's word; the list of
accepted words is then the decoder run on each of the 256. -/
theorem hostPortAcceptsThirteenWords : Obligations.HostPortAcceptsThirteenWords := by
  refine ⟨decodeHost_ok_iff, ?_, fun _ => decodeHost_illegalOpcode⟩
  decide +kernel

/-- Settles O6: one case for each check of R77, in its order; the readiness checks are the guards of the operation that the
word encodes. -/
theorem wordsAreCheckedInOrder : Obligations.WordsAreCheckedInOrder := by
  intro s op rest hp opc opd u
  split_ifs with hf hopc hslot hnone hbit hC hdisp hgame
  · exact step_halted hp hf
  all_goals have h0 : s.fault = 0 := Classical.not_not.mp hf
  · exact step_reject hp h0 (decodeHost_illegalOpcode hopc)
  · exact step_reject hp h0 (decodeHost_reservedSlotBits hslot.1 hslot.2)
  · exact step_reject hp h0 (decodeHost_reservedOperand hnone.1 hnone.2)
  · exact step_reject hp h0 (decodeHost_reservedCommandBit hbit.1 hbit.2)
  · exact step_reject hp h0 (decodeHost_reservedCommand hC.1 (fun hb => hbit ⟨hC.1, hb⟩) hC.2)
  all_goals
    obtain ⟨i, hi, rfl⟩ := exists_host_word hopc hslot hnone hbit hC
    have hstep : step s = exec i u := step_host hi hp h0
  · have hneeds : i.needsDisplay = true := (needsDisplay_iff hi).mpr hdisp.1
    exact hstep.trans (exec_host_displayNotReady hi h0 hneeds hdisp.2)
  · have hneeds : i.needsGame = true := (needsGame_iff hi).mpr hgame.1
    have hpass : ¬(i.needsDisplay = true ∧ u.dispReady = false) := fun ⟨hn, hd⟩ =>
      hdisp ⟨(needsDisplay_iff hi).mp hn, hd⟩
    exact hstep.trans (exec_host_gameNotReady hi h0 hpass hneeds hgame.2)
  · exact ⟨i, hi, rfl, hstep⟩

/-- Settles O4: the identifiers are `encode`'s own rows, and OP[7] = 1 puts the opcode in 0x8 to 0xF. -/
theorem microIdentifiersAreNoHostWords : Obligations.MicroIdentifiersAreNoHostWords := by
  refine ⟨fun _ _ _ _ _ _ _ _ => rfl, fun s op rest hbit h0 hp => ?_⟩
  have hopc : 0x8 ≤ opcodeOf op := (le_opcodeOf_iff op).mpr hbit
  exact step_reject hp h0 (decodeHost_illegalOpcode (.inr hopc))

end Sys2Proof.Proofs
end

section
/-! Catalog admission (40_catalog.md R101): each check of the model as the proposition that its constraint states, and what a
configuration is refused for. -/

namespace Sys2Proof

/-- A right shift by n clears a word exactly where the word has no bit at n or above. -/
theorem ushiftRight_eq_zero_iff_getLsbD {width : Nat} (v : BitVec width) (n : Nat) :
    v >>> n = 0 ↔ ∀ k, n ≤ k → v.getLsbD k = false := by
  constructor
  · intro h k hk
    have hbit : (v >>> n).getLsbD (k - n) = false := by rw [h]; exact BitVec.getLsbD_zero
    rwa [BitVec.getLsbD_ushiftRight, Nat.add_sub_cancel' hk] at hbit
  · intro h
    apply BitVec.eq_of_getLsbD_eq
    intro i _
    rw [BitVec.getLsbD_ushiftRight, h _ (Nat.le_add_right n i)]
    exact BitVec.getLsbD_zero.symm

/-- What holds of every local row holds of the three stored rows (R42). -/
theorem CatEntry.forall_row_iff (e : CatEntry) (P : Nat → Byte → Prop) :
    (∀ r, r < 3 → P r (e.row r)) ↔ P 0 e.row0 ∧ P 1 e.row1 ∧ P 2 e.row2 := by
  constructor
  · exact fun h => ⟨h 0 (by decide), h 1 (by decide), h 2 (by decide)⟩
  · rintro ⟨h0, h1, h2⟩ r hr
    match r, hr with
    | 0, _ => exact h0
    | 1, _ => exact h1
    | 2, _ => exact h2

/-- Constraint (a). -/
theorem CatEntry.positive_iff (e : CatEntry) : e.positive = true ↔ 1 ≤ e.w.toNat ∧ 1 ≤ e.h.toNat := by
  simp only [CatEntry.positive, Bool.and_eq_true, decide_eq_true_eq]

/-- Constraint (b). -/
theorem CatEntry.withinFrame_iff (e : CatEntry) : e.withinFrame = true ↔ e.w.toNat ≤ 8 ∧ e.h.toNat ≤ 8 := by
  simp only [CatEntry.withinFrame, Bool.and_eq_true, decide_eq_true_eq]

/-- Constraint (c), columns. -/
theorem CatEntry.columnsInside_iff (e : CatEntry) :
    e.columnsInside = true ↔ ∀ r, r < 3 → ∀ k, e.w.toNat ≤ k → (e.row r).getLsbD k = false := by
  rw [e.forall_row_iff fun _ v => ∀ k, e.w.toNat ≤ k → v.getLsbD k = false]
  simp only [CatEntry.columnsInside, Bool.and_eq_true, decide_eq_true_eq, ushiftRight_eq_zero_iff_getLsbD, and_assoc]

/-- Constraint (c), rows. -/
theorem CatEntry.rowsInside_iff (e : CatEntry) :
    e.rowsInside = true ↔ ∀ r, r < 3 → e.h.toNat ≤ r → e.row r = 0 := by
  rw [e.forall_row_iff fun r v => e.h.toNat ≤ r → v = 0]
  simp only [CatEntry.rowsInside, Bool.and_eq_true, decide_eq_true_eq, and_assoc]

/-- Constraint (d). -/
theorem CatEntry.spawnFits_iff (e : CatEntry) : e.spawnFits = true ↔ 3 + e.w.toNat ≤ 8 ∧ 0 + e.h.toNat ≤ 8 := by
  rw [CatEntry.spawnFits, Bool.and_eq_true, decide_eq_true_eq, decide_eq_true_eq]
  rfl

/-- Constraints (a), (b) and (c) of one entry. -/
theorem CatEntry.admitted_iff (e : CatEntry) :
    e.admitted = true ↔ (1 ≤ e.w.toNat ∧ 1 ≤ e.h.toNat) ∧ (e.w.toNat ≤ 8 ∧ e.h.toNat ≤ 8) ∧
      ∀ r, r < 3 → (∀ k, e.w.toNat ≤ k → (e.row r).getLsbD k = false) ∧ (e.h.toNat ≤ r → e.row r = 0) := by
  simp only [CatEntry.admitted, Bool.and_eq_true, e.positive_iff, e.withinFrame_iff, e.columnsInside_iff,
    e.rowsInside_iff, and_assoc, forall_and]

/-- The admission of a whole catalog: every entry by itself, and both spawn placements. -/
theorem Catalog.admitted_iff (c : Catalog) :
    c.admitted = true ↔
      (∀ e ∈ c.entries, e.admitted = true) ∧ ∀ e ∈ [c.p0.o0, c.p1.o0], e.spawnFits = true := by
  rw [Catalog.admitted, Bool.and_eq_true, Bool.and_eq_true, List.all_eq_true, and_assoc, List.forall_mem_cons,
    List.forall_mem_singleton]

/-- R115's one-hot table selects a different row for each value. -/
theorem rowselAdmitted_default : rowselAdmitted defaultRowsel = true := by decide

/-- A configuration is built exactly where its catalog and its ROWSEL table are admitted. -/
theorem Config.isSome_configure_iff (c : Catalog) (sr li : Byte) (t : Rows) (pol : Bool) (f0 f1 : Rows) :
    (Config.configure c sr li t pol f0 f1).isSome = true ↔ c.admitted = true ∧ rowselAdmitted t = true := by
  unfold Config.configure
  split_ifs with hc ht
  · exact iff_of_true rfl ⟨hc, ht⟩
  · exact iff_of_false Bool.false_ne_true fun h => ht h.2
  · exact iff_of_false Bool.false_ne_true fun h => hc h.1

end Sys2Proof
end

section
/-! The statements of the catalog family. -/

namespace Sys2Proof.Proofs
open Sys2Proof Sys2Proof.Machine

/-- Settles O26: with the default ROWSEL table admitted, building a configuration comes down to the catalog's own admission,
and each of its checks is the constraint it is named after. -/
theorem brokenCatalogIsRefused : Obligations.BrokenCatalogIsRefused := by
  intro c sr li pol f0 f1
  rw [Config.isSome_configure_iff, and_iff_left rowselAdmitted_default, Catalog.admitted_iff]
  simp only [CatEntry.admitted_iff, CatEntry.spawnFits_iff]

/-- Settles O25: the entry is `catRead`'s, found at its index, and its extents are bounded by the admission that the state's
configuration carries. -/
theorem catLookupReadsEntry : Obligations.CatLookupReadsEntry := by
  intro p o s
  obtain ⟨⟨hw, hh⟩, ⟨hw8, hh8⟩, -⟩ := (CatEntry.admitted_iff _).mp (catRead_admitted s.cfg p o)
  exact ⟨rfl, catRead s.cfg p o, catRead_entries s.cfg p o, rfl, hw, hw8, hh, hh8⟩

end Sys2Proof.Proofs
end

section
/-! The display family: the words of DINIT and SETBUF as the rules write them, host operations whose guards pass, and the
display unit functions as single updates of the state (41_display.md). -/

namespace Sys2Proof

/-- The opcode field of a word given by its two fields (R70). -/
@[simp] theorem opcodeOf_append (c k : BitVec 4) : opcodeOf (c ++ k) = c := BitVec.extractLsb'_append_eq_left

/-- The operand field of a word given by its two fields (R70). -/
@[simp] theorem operandOf_append (c k : BitVec 4) : operandOf (c ++ k) = k := BitVec.extractLsb'_append_eq_right

/-- DINIT's word as the sum that R71 reads as 0001 000S. -/
theorem encode_dinit (S : Slot) : encode (.dinit S) = 0x10#8 + S.setWidth 8 := by
  rcases Machine.slot_cases S with rfl | rfl <;> rfl

/-- SETBUF's word as the sum that R71 reads as 0010 000S. -/
theorem encode_setbuf (S : Slot) : encode (.setbuf S) = 0x20#8 + S.setWidth 8 := by
  rcases Machine.slot_cases S with rfl | rfl <;> rfl

end Sys2Proof

namespace Sys2Proof.Machine

/-- A host operation whose guards pass takes its own effect (R213). -/
theorem exec_host_runs {i : Instr} {s : State} (hi : i.isHost = true) (h0 : s.fault = 0)
    (hdisp : i.needsDisplay = true → s.dispReady = true) (hgame : i.needsGame = true → s.gameReady = true) :
    exec i s = .next (hostEffect i s) := by
  rw [exec_host hi, guarded_runs h0 hdisp hgame]

theorem exec_shiftOut (w : SerialWord) (s : State) : exec (.shiftOut w) s = .next (shiftOut w s) := rfl

theorem exec_swapCheck (s : State) : exec .swapCheck s = .next (swapCheck s) := rfl

/-- SHIFT_OUT's events with the bit number counted down from 15, as R117 writes the loop. -/
theorem shiftEvents_eq_countdown (w : SerialWord) :
    shiftEvents w =
      (List.range 16).flatMap (fun k => [(Line.data, w.getLsbD (15 - k)), (Line.sclk, true), (Line.sclk, false)]) ++
        [(Line.latch, true), (Line.latch, false)] := by
  have horder : bitOrder = (List.range 16).map (15 - ·) := by decide
  rw [shiftEvents, horder, List.flatMap_map]
  rfl

/-- Where the cursor does not wrap with a slot pending, SWAP_CHECK only advances it. -/
theorem swapCheck_advances {s : State} (h : s.cursor ≠ 7 ∨ s.pendV = false) :
    swapCheck s = { s with cursor := s.cursor + 1 } := by
  rcases swapCheck_cases s with ⟨hc, hp, -⟩ | ⟨-, heq⟩
  · simp [hc, hp] at h
  · exact heq

/-- At the wrap, a pending slot becomes active. -/
theorem swapCheck_swaps {s : State} (hc : s.cursor = 7) (hp : s.pendV = true) :
    swapCheck s = { s with cursor := 0, active := s.pend, pendV := false } := by
  rcases swapCheck_cases s with ⟨-, -, heq⟩ | ⟨h, -⟩
  · exact heq
  · simp [hc, hp] at h

/-- SWAP_CHECK as one update: the cursor goes round mod 8, and PEND_V is never left set by a wrap. -/
theorem swapCheck_eq (s : State) :
    swapCheck s = { s with
      cursor := s.cursor + 1
      active := if s.cursor = 7 ∧ s.pendV = true then s.pend else s.active
      pendV := if s.cursor = 7 then false else s.pendV } := by
  by_cases hc : s.cursor = 7
  · cases hp : s.pendV with
    | true => simp [swapCheck_swaps hc hp, hc]
    | false => simp [swapCheck_advances (.inr hp), ← hp]
  · rw [swapCheck_advances (.inl hc), if_neg fun h => hc h.1, if_neg hc]

/-- WROW's effect as one update: the swap check after the row's shift-out reads the cursor and the pending slot that were there
before it. -/
theorem writeRow_eq (s : State) :
    writeRow s = { s with
      data := (rowsel s.cfg s.cursor).getLsbD 0
      sclk := false
      latch := false
      ptrace := s.ptrace ++ shiftEvents (serialWord (pixelByte s) (rowsel s.cfg s.cursor))
      ltrace := s.ltrace ++ [(pixelByte s, rowsel s.cfg s.cursor)]
      cursor := s.cursor + 1
      active := if s.cursor = 7 ∧ s.pendV = true then s.pend else s.active
      pendV := if s.cursor = 7 then false else s.pendV } := by
  rw [writeRow, scanRow_eq, swapCheck_eq]

end Sys2Proof.Machine
end

section
/-! The statements of the display family. -/

namespace Sys2Proof.Proofs
open Sys2Proof Sys2Proof.Machine

/-- Settles O15: the row's shift-out followed by the swap check, as one update of the state. -/
theorem wrowEmitsRowAndAdvances : Obligations.WrowEmitsRowAndAdvances := by
  intro s
  refine ⟨decodeHost_encode (i := .wrow) rfl, fun k hk => ?reserved, fun h0 hd => ?notReady, fun h0 hd => ⟨?runs, ?events⟩⟩
  case reserved => exact decodeHost_reservedOperand (.inl (opcodeOf_append _ _)) (by rwa [operandOf_append])
  case notReady => exact exec_host_displayNotReady rfl h0 rfl hd
  case runs =>
    rw [exec_host_runs rfl h0 (fun _ => hd) (by simp [Instr.needsGame])]
    exact congrArg _ (writeRow_eq s)
  case events => exact shiftEvents_length _

/-- Settles O13: DINIT has no ready flag to wait for, so an unhalted block always takes its effect. -/
theorem dinitInitialisesDisplay : Obligations.DinitInitialisesDisplay := by
  intro S s
  refine ⟨?decodes, fun k hk => ?reserved, fun h0 => ?runs⟩
  case decodes => rw [← encode_dinit, decodeHost_encode rfl]
  case reserved => exact decodeHost_reservedSlotBits (.inl (opcodeOf_append _ _)) (by rwa [operandOf_append])
  case runs =>
    rw [exec_host_runs rfl h0 (by simp [Instr.needsDisplay]) (by simp [Instr.needsGame])]
    exact congrArg _ (displayInit_eq S s)

/-- Settles O14: behind the display guard SETBUF is `queueSlot`, which writes PEND and PEND_V. -/
theorem setbufQueuesSlot : Obligations.SetbufQueuesSlot := by
  intro S s
  refine ⟨?decodes, fun k hk => ?reserved, fun h0 hd => ?notReady, fun h0 hd => ?runs⟩
  case decodes => rw [← encode_setbuf, decodeHost_encode rfl]
  case reserved => exact decodeHost_reservedSlotBits (.inr (opcodeOf_append _ _)) (by rwa [operandOf_append])
  case notReady =>
    rw [exec_host_displayNotReady rfl h0 rfl hd, encode_setbuf]
    rfl
  case runs => exact exec_host_runs rfl h0 (fun _ => hd) (by simp [Instr.needsGame])

/-- Settles O16: the model's list of bit numbers is R117's countdown from 15. -/
theorem shiftOutDrivesSerialProtocol : Obligations.ShiftOutDrivesSerialProtocol := by
  intro w s
  refine ⟨rfl, ?_, shiftEvents_length w⟩
  rw [exec_shiftOut, shiftOut_eq, shiftEvents_eq_countdown]

/-- Settles O17: below row 7 the 3-bit cursor does not wrap; at row 7 its successor is 0, and PEND_V decides the swap. -/
theorem swapCheckAdvancesCursor : Obligations.SwapCheckAdvancesCursor := by
  intro s
  refine ⟨rfl, fun hlt => ?below, fun hc hp => ?wraps, fun hc hp => ?swaps⟩
  case below =>
    have hne : s.cursor ≠ 7 := by
      intro h
      simp [h] at hlt
    have hfits : s.cursor.toNat + 1 < 2 ^ 3 := by omega
    refine ⟨_, exec_swapCheck s, ?_⟩
    rw [swapCheck_advances (.inl hne)]
    exact ⟨rfl, BitVec.toNat_add_of_lt hfits⟩
  case wraps =>
    rw [exec_swapCheck, swapCheck_advances (.inr hp), hc]
    rfl
  case swaps => rw [exec_swapCheck, swapCheck_swaps hc hp]

end Sys2Proof.Proofs
end

section
/-! The collision family: the collision engine's units as single updates of the state, the bounds check case by case, and the
blit row by row (42_collision.md). -/

namespace Sys2Proof.Machine

theorem exec_checkBounds (p : PieceId) (o : Orient) (x y : Coord) (s : State) :
    exec (.checkBounds p o x y) s = .next { s with br := some (boundsOf s.cfg p o x y) } := rfl

theorem exec_blit (d : BufId) (p : PieceId) (o : Orient) (x y : Coord) (s : State) :
    exec (.blit d p o x y) s = .next (s.setBuf d (blitRows (catRead s.cfg p o) x y (s.buf d))) := rfl

theorem exec_checkOverlap (a b : BufId) (s : State) :
    exec (.checkOverlap a b) s = .next { s with ovf := some (disjoint (s.buf a) (s.buf b)) } := rfl

theorem exec_clearWork (s : State) : exec .clearWork s = .next { s with work := Rows.zero } := rfl

/-! ## The bounds check (R141) -/

theorem boundsOf_side {c : Config} {p : PieceId} {o : Orient} {x : Coord} (y : Coord)
    (hx : 8 < x.toNat + (catRead c p o).w.toNat) : boundsOf c p o x y = .side := by
  rcases boundsOf_cases c p o x y with ⟨-, heq⟩ | ⟨hx', -⟩ | ⟨hx', -⟩
  · exact heq
  · omega
  · omega

theorem boundsOf_bottom {c : Config} {p : PieceId} {o : Orient} {x y : Coord}
    (hx : x.toNat + (catRead c p o).w.toNat ≤ 8) (hy : 8 < y.toNat + (catRead c p o).h.toNat) :
    boundsOf c p o x y = .bottom := by
  rcases boundsOf_cases c p o x y with ⟨hx', -⟩ | ⟨-, -, heq⟩ | ⟨-, hy', -⟩
  · omega
  · exact heq
  · omega

theorem boundsOf_none {c : Config} {p : PieceId} {o : Orient} {x y : Coord}
    (hx : x.toNat + (catRead c p o).w.toNat ≤ 8) (hy : y.toNat + (catRead c p o).h.toNat ≤ 8) :
    boundsOf c p o x y = .none := by
  rcases boundsOf_cases c p o x y with ⟨hx', -⟩ | ⟨-, hy', -⟩ | ⟨-, -, heq⟩
  · omega
  · omega
  · exact heq

/-! ## The blit (R144) and the overlap check (R145) -/

/-- A left shift as R144 writes it: the product with the power of two, cut to the word's width. -/
theorem shiftLeft_eq_ofNat_mul {width : Nat} (v : BitVec width) (n : Nat) :
    v <<< n = BitVec.ofNat width (v.toNat * 2 ^ n) := by
  apply BitVec.eq_of_toNat_eq
  rw [BitVec.toNat_shiftLeft, BitVec.toNat_ofNat, Nat.shiftLeft_eq]

/-- What one row of the blit leaves in row i: local row r is OR-ed in where row i is row y + r. -/
theorem get_blitRow (e : CatEntry) (x y : Coord) (d : Rows) (r : Nat) (i : Fin 8) :
    (blitRow e x y d r).get i = if i.val = y.toNat + r then d.get i ||| e.row r <<< x.toNat else d.get i :=
  Rows.get_orRow d _ _ i

/-- What the blit leaves in row i: the three target rows differ, so a row in the window takes exactly one local row. -/
theorem get_blitRows (e : CatEntry) (x y : Coord) (d : Rows) (i : Fin 8) :
    (blitRows e x y d).get i =
      if y.toNat ≤ i.val ∧ i.val ≤ y.toNat + 2 then d.get i ||| e.row (i.val - y.toNat) <<< x.toNat else d.get i := by
  have hfold : blitRows e x y d = blitRow e x y (blitRow e x y (blitRow e x y d 0) 1) 2 := rfl
  simp only [hfold, get_blitRow]
  by_cases hwin : y.toNat ≤ i.val ∧ i.val ≤ y.toNat + 2
  · rw [if_pos hwin]
    obtain ⟨r, hr⟩ := Nat.exists_eq_add_of_le hwin.1
    rw [hr, Nat.add_sub_cancel_left]
    have hr3 : r < 3 := by omega
    match r, hr3 with
    | 0, _ => simp
    | 1, _ => simp
    | 2, _ => simp
  · have hout : ∀ r, r < 3 → i.val ≠ y.toNat + r := by omega
    rw [if_neg hwin, if_neg (hout 2 (by decide)), if_neg (hout 1 (by decide)), if_neg (hout 0 (by decide))]

/-- The overlap check answers false exactly where some row pair has a common bit. -/
theorem disjoint_eq_false_iff (a b : Rows) : disjoint a b = false ↔ ∃ i : Fin 8, a.get i &&& b.get i ≠ 0 := by
  rw [← Bool.not_eq_true, disjoint_iff, not_forall]

end Sys2Proof.Machine
end

section
/-! The statements of the collision family. -/

namespace Sys2Proof.Proofs
open Sys2Proof Sys2Proof.Machine

/-- Settles O29: the entry is `catRead`'s, and each row of D is read off `get_blitRows` with its shift written as a product. -/
theorem blitOrsShiftedRows : Obligations.BlitOrsShiftedRows := by
  intro d p o x y s
  refine ⟨rfl, catRead s.cfg p o, _, catRead_entries s.cfg p o, exec_blit d p o x y s, fun i => ?_⟩
  rw [get_blitRows, shiftLeft_eq_ofNat_mul]

/-- Settles O27: the three clauses are the three answers of `boundsOf`, whose sums exclude each other. -/
theorem checkBoundsClassifies : Obligations.CheckBoundsClassifies := by
  intro p o x y s
  refine ⟨rfl, catRead s.cfg p o, catRead_entries s.cfg p o, fun hx => ?side, fun hx hy => ?bottom, fun hx hy => ?none⟩
  case side => rw [exec_checkBounds, boundsOf_side y hx]
  case bottom => rw [exec_checkBounds, boundsOf_bottom hx hy]
  case none => rw [exec_checkBounds, boundsOf_none hx hy]

/-- Settles O31: OVF is `disjoint` of the two buffers, which tests every row pair. -/
theorem checkOverlapTestsEveryRow : Obligations.CheckOverlapTestsEveryRow := by
  intro a b s
  refine ⟨rfl, fun hall => ?disjoint, fun hsome => ?common⟩
  case disjoint => rw [exec_checkOverlap, (disjoint_iff _ _).mpr hall]
  case common => rw [exec_checkOverlap, (disjoint_eq_false_iff _ _).mpr hsome]

/-- Settles O33: CLEAR_WORK leaves the zero buffer in WORK. -/
theorem clearWorkZeroesWork : Obligations.ClearWorkZeroesWork :=
  fun s => ⟨rfl, Rows.zero, exec_clearWork s, Rows.get_zero⟩

end Sys2Proof.Proofs
end

section
/-! The game family: modular increments as R164 and R177 write them, the words of GCMD by their fields, the game's unit functions
as single updates of the state, and the row-clear pass row by row (43_game.md). -/

namespace Sys2Proof

/-- Counting up mod 2 ^ width, on numbers. -/
theorem add_one_eq_ofNat_mod {width : Nat} (v : BitVec width) :
    v + 1 = BitVec.ofNat width ((v.toNat + 1) % 2 ^ width) := by
  apply BitVec.eq_of_toNat_eq
  rw [BitVec.toNat_add, BitVec.toNat_ofNat, BitVec.ofNat_eq_ofNat, BitVec.toNat_ofNat, Nat.add_mod_mod, Nat.mod_mod]

/-- Counting down mod 2 ^ width, on numbers: R164's and R177's "- 1" never leaves the naturals. -/
theorem sub_one_eq_ofNat_mod {width : Nat} (v : BitVec width) :
    v - 1 = BitVec.ofNat width ((v.toNat + (2 ^ width - 1)) % 2 ^ width) := by
  apply BitVec.eq_of_toNat_eq
  rw [BitVec.sub_eq_add_neg, BitVec.ofNat_eq_ofNat, BitVec.neg_one_eq_allOnes, BitVec.toNat_add, BitVec.toNat_allOnes,
    BitVec.toNat_ofNat, Nat.mod_mod]

/-- R177's test of the decremented count, on numbers. -/
theorem byte_sub_one_eq_iff (v l : Byte) : v - 1 = l ↔ (v.toNat + 255) % 256 = l.toNat := by
  rw [sub_one_eq_ofNat_mod, ← BitVec.toNat_inj, BitVec.toNat_ofNat, Nat.mod_mod]
  rfl

/-- The identity is one bit, so toggling it takes it from 1 (R161, R175). -/
theorem pieceId_xor_one (p : PieceId) : p ^^^ 1 = 1 - p := by
  revert p
  decide

/-- GCMD's word as the sum that R71 reads as 0111 0CCC. -/
theorem encode_gcmd_add (c : Command) : encode (gcmd c) = 0x70#8 + (commandCode c).setWidth 8 := by
  cases c <;> rfl

/-- A GCMD word's fields, given as OP[3] and C (R71). -/
theorem gcmdWord_eq_append (b : BitVec 1) (k : BitVec 3) : (0x7#4 ++ b ++ k : Byte) = 0x7#4 ++ (b ++ k : BitVec 4) :=
  BitVec.append_assoc

/-- OP[3] of a GCMD word's operand field. -/
theorem getLsbD_three_append (b : BitVec 1) (k : BitVec 3) : (b ++ k : BitVec 4).getLsbD 3 = b.getLsbD 0 :=
  BitVec.getLsbD_append

end Sys2Proof

namespace Sys2Proof.Machine

/-! ## The host operations of the game -/

/-- GINIT's effect as one update, with SPAWN's constants as R7 gives them. -/
theorem gameInit_eq (s : State) :
    gameInit s = { s with
      board := ⟨0, 0, 0, 0, 0, 0, 0, 0⟩
      work := ⟨0, 0, 0, 0, 0, 0, 0, 0⟩
      pid := 1
      x := 3
      y := 0
      ori := 0
      gx := 3
      gy := 0
      gori := 0
      level := s.cfg.levelInit
      speed := s.cfg.speedReload
      gameReady := true } := rfl

/-- START's effect as one update, with the toggle on the number and SPAWN's constants as R7 gives them. -/
theorem start_eq_one_sub (s : State) :
    start s = { s with
      board := ⟨0, 0, 0, 0, 0, 0, 0, 0⟩
      level := s.cfg.levelInit
      speed := s.cfg.speedReload
      pid := 1 - s.pid
      x := 3
      y := 0
      ori := 0
      gx := 3
      gy := 0
      gori := 0 } := by
  rw [start_eq, pieceId_xor_one]
  rfl

@[simp] theorem isHost_gcmd (c : Command) : (gcmd c).isHost = true := by cases c <;> rfl

@[simp] theorem needsDisplay_gcmd (c : Command) : (gcmd c).needsDisplay = false := by cases c <;> rfl

@[simp] theorem needsGame_gcmd (c : Command) : (gcmd c).needsGame = true := by cases c <;> rfl

@[simp] theorem hostEffect_gcmd (c : Command) : hostEffect (gcmd c) = applyCmd c := by cases c <;> rfl

/-- Behind the game guard, GCMD is APPLY_CMD of its command (R163). -/
theorem exec_gcmd_runs {s : State} (h0 : s.fault = 0) (hg : s.gameReady = true) (c : Command) :
    exec (gcmd c) s = .next (applyCmd c s) := by
  rw [exec_host_runs (isHost_gcmd c) h0 (by simp) (fun _ => hg), hostEffect_gcmd]

/-! ## The unit functions of the game -/

theorem exec_start (s : State) : exec .start s = .next (start s) := rfl

theorem exec_applyCmd (c : Command) (s : State) : exec (.applyCmd c) s = .next (applyCmd c s) := rfl

theorem exec_commit (s : State) : exec .commit s = .next { s with gx := s.x, gy := s.y, gori := s.ori } := rfl

theorem exec_revert (s : State) : exec .revert s = .next (revert s) := rfl

theorem exec_lock (s : State) : exec .lock s = .next { s with board := s.board.or s.work } := rfl

theorem exec_rowClear (s : State) :
    exec .rowClear s = .next { s with board := (clearRows s.board s.level).1, level := (clearRows s.board s.level).2 } :=
  rfl

theorem exec_spawn (s : State) :
    exec .spawn s = .next { s with pid := s.pid ^^^ 1, x := 3, y := 0, ori := 0, gx := 3, gy := 0, gori := 0 } := rfl

theorem exec_composeHandoff (s : State) : exec .composeHandoff s = .next (composeHandoff s) := rfl

theorem exec_speedStep (s : State) : exec .speedStep s = .next (speedStep s) := rfl

@[simp] theorem applyCmd_none (s : State) : applyCmd .none s = s := rfl

theorem applyCmd_rotate (s : State) : applyCmd .rotate s = { s with ori := s.ori + 1 } := rfl

theorem applyCmd_left (s : State) : applyCmd .left s = { s with x := s.x - 1 } := rfl

theorem applyCmd_right (s : State) : applyCmd .right s = { s with x := s.x + 1 } := rfl

theorem applyCmd_down (s : State) : applyCmd .down s = { s with y := s.y + 1 } := rfl

/-! ## The blit cell by cell (R102) -/

/-- The footprint read at a cell: the cell's local row and column are inside the bitmap, and its bit is set there. -/
theorem inFootprint_iff (e : CatEntry) (x y : Coord) (i k : Nat) :
    inFootprint e x y i k ↔
      (y.toNat ≤ i ∧ i ≤ y.toNat + 2) ∧ x.toNat ≤ k ∧ (e.row (i - y.toNat)).getLsbD (k - x.toNat) = true := by
  constructor
  · rintro ⟨r, hr, c, -, hbit, rfl, rfl⟩
    rw [Nat.add_sub_cancel_left, Nat.add_sub_cancel_left]
    exact ⟨⟨by omega, by omega⟩, by omega, hbit⟩
  · rintro ⟨⟨hyi, hi⟩, hxk, hbit⟩
    exact ⟨i - y.toNat, by omega, k - x.toNat, BitVec.lt_of_getLsbD hbit, hbit, by omega, by omega⟩

/-- A cell of the field is set after the blit where it was set before or belongs to the footprint. -/
theorem getLsbD_get_blitRows (e : CatEntry) (x y : Coord) (d : Rows) (i : Fin 8) {k : Nat} (hk : k < 8) :
    ((blitRows e x y d).get i).getLsbD k = true ↔ (d.get i).getLsbD k = true ∨ inFootprint e x y i.val k := by
  rw [get_blitRows, inFootprint_iff]
  split_ifs with hwin
  · simp only [BitVec.getLsbD_or, BitVec.getLsbD_shiftLeft, Bool.or_eq_true, Bool.and_eq_true, decide_eq_true_eq,
      Bool.not_eq_true', decide_eq_false_iff_not, not_lt, hwin, hk, true_and]
  · simp only [hwin, false_and, or_false]

/-! ## The row-clear pass (R174) -/

/-- BOARD and LEVEL before row n of the pass: rows 0 to n - 1 have been scanned. -/
def clearPass (b : Rows) (level : Byte) (n : Nat) : Rows × Byte := (rowOrder.take n).foldl clearStep (b, level)

theorem clearPass_zero (b : Rows) (level : Byte) : clearPass b level 0 = (b, level) := rfl

/-- After its eighth row the pass is the whole of ROW_CLEAR. -/
theorem clearPass_eight (b : Rows) (level : Byte) : clearPass b level 8 = clearRows b level := by
  unfold clearRows
  rfl

theorem getElem?_rowOrder (i : Fin 8) : rowOrder[i.val]? = some i := by
  revert i
  decide

/-- The pass scans row i next after the rows above it. -/
theorem clearPass_succ (b : Rows) (level : Byte) (i : Fin 8) :
    clearPass b level (i.val + 1) = clearStep (clearPass b level i.val) i := by
  simp only [clearPass, List.take_add_one, getElem?_rowOrder, List.foldl_append, Option.toList_some, List.foldl_cons,
    List.foldl_nil]

theorem clearStep_full {b : Rows} {level : Byte} {i : Fin 8} (h : b.get i = 0xFF) :
    clearStep (b, level) i = (removeRow b i, level + 1) := if_pos h

theorem clearStep_notFull {b : Rows} {level : Byte} {i : Fin 8} (h : b.get i ≠ 0xFF) :
    clearStep (b, level) i = (b, level) := if_neg h

/-- Removing a row brings an empty row in at the top. -/
theorem get_removeRow_zero (b : Rows) (i : Fin 8) : (removeRow b i).get 0 = 0 := by
  rw [get_removeRow, if_pos (Fin.zero_le i), if_pos rfl]

/-- Below the top, the rows down to the removed one are those that stood one higher. -/
theorem get_removeRow_succ (b : Rows) (i : Fin 8) (j : Fin 7) :
    (removeRow b i).get j.succ = if j.succ ≤ i then b.get j.castSucc else b.get j.succ := by
  have hprev : j.succ - 1 = j.castSucc := by
    revert j
    decide
  rw [get_removeRow, if_neg (Fin.succ_ne_zero j), hprev]

end Sys2Proof.Machine
end

section
/-! The statements of the game family. -/

namespace Sys2Proof.Proofs
open Sys2Proof Sys2Proof.Machine

/-- Settles O40: WORK is the piece blitted into an empty buffer, so a cell is set only by the footprint. -/
theorem revertRestoresShadow : Obligations.RevertRestoresShadow := by
  intro s
  refine ⟨rfl, blitRows (catRead s.cfg s.pid s.gori) s.gx s.gy Rows.zero, ?runs, fun i k hk => ?cell⟩
  case runs => rw [exec_revert, revert_eq]
  case cell =>
    have hempty : (Rows.zero.get i).getLsbD k ≠ true := by simp
    rw [getLsbD_get_blitRows _ _ _ _ _ hk, or_iff_right hempty]

/-- Settles O42: the boards and levels are those of `clearPass`, whose step at row i is `clearStep`. -/
theorem rowClearScansOnce : Obligations.RowClearScansOnce := by
  intro s
  refine ⟨rfl, fun n => (clearPass s.board s.level n).1, fun n => (clearPass s.board s.level n).2,
    rfl, rfl, ?runs, fun i => ?scan⟩
  case runs => rw [exec_rowClear, ← clearPass_eight]; rfl
  case scan =>
    simp only [Fin.val_succ, Fin.val_castSucc, clearPass_succ]
    obtain ⟨b, level⟩ := clearPass s.board s.level i
    refine ⟨fun hfull => ?_, fun hpart => ?_⟩
    · rw [clearStep_full hfull]
      exact ⟨rfl, get_removeRow_zero b i, get_removeRow_succ b i⟩
    · rw [clearStep_notFull hpart]
      exact ⟨rfl, rfl⟩

/-- Settles O34: GINIT has no ready flag to wait for, so an unhalted block always takes its effect. -/
theorem ginitInitialisesGame : Obligations.GinitInitialisesGame := by
  intro s
  refine ⟨decodeHost_encode (i := .ginit) rfl, fun k hk => ?reserved, fun h0 => ?runs⟩
  case reserved => exact decodeHost_reservedOperand (.inr (.inl (opcodeOf_append _ _))) (by rwa [operandOf_append])
  case runs =>
    rw [exec_host_runs rfl h0 (by simp [Instr.needsDisplay]) (by simp [Instr.needsGame])]
    exact congrArg _ (gameInit_eq s)

/-- Settles O35: START is one update; the toggle of the one-bit identity is 1 - PID. -/
theorem startRestartsGame : Obligations.StartRestartsGame := by
  intro s
  refine ⟨rfl, ?_⟩
  rw [exec_start, start_eq_one_sub]

/-- Settles O36: GSTART waits for the game flag alone, and then its effect is START's. -/
theorem gstartPerformsStart : Obligations.GstartPerformsStart := by
  intro s
  refine ⟨decodeHost_encode (i := .gstart) rfl, fun k hk => ?reserved, fun h0 hg => ?notReady, fun h0 hg => ?runs⟩
  case reserved =>
    exact decodeHost_reservedOperand (.inr (.inr (.inl (opcodeOf_append _ _)))) (by rwa [operandOf_append])
  case notReady => exact exec_host_gameNotReady rfl h0 (by simp [Instr.needsDisplay]) rfl hg
  case runs =>
    rw [exec_host_runs rfl h0 (by simp [Instr.needsDisplay]) (fun _ => hg)]
    exact congrArg _ (start_eq_one_sub s)

/-- Settles O37: each command moves one field of the working placement, and a word's arithmetic is mod 2 ^ width. -/
theorem applyCmdMovesWorkingPlacement : Obligations.ApplyCmdMovesWorkingPlacement := by
  intro s
  refine ⟨fun _ => rfl, ?none, ?rotate, ?down, ?left, ?right⟩
  case none => rw [exec_applyCmd, applyCmd_none]
  case rotate => rw [exec_applyCmd, applyCmd_rotate, add_one_eq_ofNat_mod]; rfl
  case down => rw [exec_applyCmd, applyCmd_down, add_one_eq_ofNat_mod]; rfl
  case left => rw [exec_applyCmd, applyCmd_left, sub_one_eq_ofNat_mod]; rfl
  case right => rw [exec_applyCmd, applyCmd_right, add_one_eq_ofNat_mod]; rfl

/-- Settles O38: the words by their fields OP[3] and C, then the game guard, then APPLY_CMD of the word's command. -/
theorem gcmdAppliesCommand : Obligations.GcmdAppliesCommand := by
  intro s
  refine ⟨fun c => ?decodes, fun k hk => ?reservedCommand, fun k => ?reservedOperand, fun h0 hg c => ?notReady,
    fun h0 hg => ?runs⟩
  case decodes => rw [← encode_gcmd_add, decodeHost_encode (isHost_gcmd c)]
  case reservedCommand =>
    rw [gcmdWord_eq_append]
    refine decodeHost_reservedCommand (opcodeOf_append _ _) ?_ ?_
    · rw [operandOf_append, getLsbD_three_append]
      decide
    · rwa [operandOf_append, BitVec.extractLsb'_append_eq_right]
  case reservedOperand =>
    rw [gcmdWord_eq_append]
    exact decodeHost_reservedCommandBit (opcodeOf_append _ _) (by rw [operandOf_append, getLsbD_three_append]; rfl)
  case notReady =>
    rw [exec_host_gameNotReady (isHost_gcmd c) h0 (by simp) (needsGame_gcmd c) hg, encode_gcmd_add]
    rfl
  case runs =>
    have hruns : ∀ c, exec (gcmd c) s = .next (applyCmd c s) := exec_gcmd_runs h0 hg
    exact ⟨hruns .none, hruns .rotate, hruns .left, hruns .right, hruns .down⟩

/-- Settles O39: COMMIT is that one update. -/
theorem commitRecordsPlacement : Obligations.CommitRecordsPlacement := fun s => ⟨rfl, exec_commit s⟩

/-- Settles O41: the new board is `BOARD | WORK`, which is the OR of each row pair. -/
theorem lockMergesWork : Obligations.LockMergesWork :=
  fun s => ⟨rfl, s.board.or s.work, exec_lock s, Rows.get_or s.board s.work⟩

/-- Settles O44: SPAWN is that one update. -/
theorem spawnTogglesPiece : Obligations.SpawnTogglesPiece := fun s => ⟨rfl, exec_spawn s⟩

/-- Settles O45: the frame is `BOARD | WORK`, and ACTIVE decides which slot is the other one. -/
theorem composeHandoffQueuesFrame : Obligations.ComposeHandoffQueuesFrame := by
  intro s
  refine ⟨rfl, s.board.or s.work, Rows.get_or s.board s.work, fun hact => ?slot0, fun hact => ?slot1⟩
  case slot0 =>
    rw [exec_composeHandoff, composeHandoff_eq, hact]
    rfl
  case slot1 =>
    rw [exec_composeHandoff, composeHandoff_eq, hact]
    rfl

/-- Settles O46: the test on numbers is the test on words, and each branch of SPEED_STEP is one update. -/
theorem speedStepCountsDown : Obligations.SpeedStepCountsDown := by
  intro s
  refine ⟨rfl, fun heq => ?fires, fun hne => ?counts⟩
  case fires =>
    have hfires : s.speed - 1 = s.level := (byte_sub_one_eq_iff _ _).mpr heq
    rw [exec_speedStep, speedStep_eq, if_pos hfires, if_pos hfires, add_one_eq_ofNat_mod]
    rfl
  case counts =>
    have hcounts : s.speed - 1 ≠ s.level := mt (byte_sub_one_eq_iff _ _).mp hne
    rw [exec_speedStep, speedStep_eq, if_neg hcounts, if_neg hcounts, sub_one_eq_ofNat_mod]
    rfl

end Sys2Proof.Proofs
end

section
/-! The exceptions family: no rule's own effect writes FAULT (60_exceptions.md R215), so a host operation whose guards pass leaves
the block running. -/

namespace Sys2Proof.Machine

/-! ## The rules' effects leave FAULT as it is -/

@[simp] theorem displayInit_fault (slot : Slot) (s : State) : (displayInit slot s).fault = s.fault := by
  rw [displayInit_eq]

@[simp] theorem writeRow_fault (s : State) : (writeRow s).fault = s.fault := by
  rw [writeRow_eq]

@[simp] theorem gameInit_fault (s : State) : (gameInit s).fault = s.fault := rfl

@[simp] theorem start_fault (s : State) : (start s).fault = s.fault := rfl

@[simp] theorem applyCmd_fault (c : Command) (s : State) : (applyCmd c s).fault = s.fault := by
  cases c <;> rfl

@[simp] theorem revert_fault (s : State) : (revert s).fault = s.fault := rfl

@[simp] theorem tickBlit_fault (s : State) : (tickBlit s).fault = s.fault := rfl

/-- After REVERT the tick stops, starts the game again, or locks: none of them faults, and game over is no fault (R216). -/
@[simp] theorem tickReverted_fault (s : State) : (tickReverted s).fault = s.fault := by
  unfold tickReverted
  split_ifs with hside hover
  · rfl
  · rw [start_fault, checkOverlap_fault]
  · rw [spawn_fault, rowClear_fault, lock_fault, checkOverlap_fault]

/-- A placement that the checks refuse is reverted, not a fault. -/
@[simp] theorem tickDecide_fault (s : State) : (tickDecide s).fault = s.fault := by
  unfold tickDecide
  split_ifs with hrefused
  · rw [tickReverted_fault, revert_fault, checkOverlap_fault]
  · rw [commit_fault, checkOverlap_fault]

@[simp] theorem tick_fault (s : State) : (tick s).fault = s.fault := by
  rw [tick, tickFinish_eq]
  exact (tickDecide_fault _).trans (tickBlit_fault s)

/-- Once its guards have passed, no host operation writes FAULT (R215). -/
@[simp] theorem hostEffect_fault (i : Instr) (s : State) : (hostEffect i s).fault = s.fault := by
  cases i with
  | dinit slot => exact displayInit_fault slot s
  | setbuf slot => exact queueSlot_fault slot s
  | wrow => exact writeRow_fault s
  | ginit => exact gameInit_fault s
  | gstart => exact start_fault s
  | gtick => exact tick_fault s
  | gcmdNone | gcmdRot | gcmdLeft | gcmdRight | gcmdDown => exact applyCmd_fault _ s
  | _ => rfl

/-! ## Running and halted blocks -/

/-- A host operation with the ready flags it needs leaves FAULT at 0. -/
theorem exec_host_unfaulted {i : Instr} {s : State} (hi : i.isHost = true) (h0 : s.fault = 0)
    (hdisp : i.needsDisplay = true → s.dispReady = true) (hgame : i.needsGame = true → s.gameReady = true) :
    ∃ t, exec i s = .next t ∧ t.fault = 0 :=
  ⟨hostEffect i s, exec_host_runs hi h0 hdisp hgame, (hostEffect_fault i s).trans h0⟩

/-- A halted block keeps its state whatever host operation reaches it (R212). -/
theorem exec_host_halted {i : Instr} {s : State} (hi : i.isHost = true) (hf : s.fault ≠ 0) : exec i s = .next s := by
  rw [exec_host hi, guarded_halted hf]

/-- A halted block's step drops the next word where one waits (R212). -/
theorem step_halted_tail {s : State} (hf : s.fault ≠ 0) : step s = .next { s with port := s.port.tail } := by
  cases hp : s.port with
  | nil => rw [step_idle hp, List.tail_nil, ← hp]
  | cons op rest => exact step_halted hp hf

end Sys2Proof.Machine
end

section
/-! The statements of the exceptions family. -/

namespace Sys2Proof.Proofs
open Sys2Proof Sys2Proof.Machine

/-- Settles O9: the guards of R213 are the two flag checks of a host operation, and behind them its effect does not write FAULT. -/
theorem readinessGuardsFault : Obligations.ReadinessGuardsFault := by
  intro s h0
  refine ⟨fun hd => ⟨fun slot => ?setbuf, ?wrow, ?tickDisplay⟩, fun hg => ⟨?gstart, fun c => ?gcmd, fun hd => ?tickGame⟩,
    fun i hi => ⟨?display, ?game, ?both, ?neither⟩⟩
  case setbuf | wrow | tickDisplay => exact exec_host_displayNotReady rfl h0 rfl hd
  case gstart => exact exec_host_gameNotReady rfl h0 (by simp [Instr.needsDisplay]) rfl hg
  case gcmd =>
    rw [exec_host_gameNotReady (isHost_gcmd c) h0 (by simp) (needsGame_gcmd c) hg, encode_gcmd_add]
    rfl
  case tickGame => exact exec_host_gameNotReady rfl h0 (by simp [hd]) rfl hg
  case display =>
    rintro (rfl | ⟨slot, rfl⟩) hd <;>
      exact exec_host_unfaulted hi h0 (fun _ => hd) (by simp [Instr.needsGame])
  case game =>
    rintro (rfl | ⟨c, rfl⟩) hg
    · exact exec_host_unfaulted hi h0 (by simp [Instr.needsDisplay]) fun _ => hg
    · exact exec_host_unfaulted hi h0 (by simp) fun _ => hg
  case both =>
    rintro rfl hd hg
    exact exec_host_unfaulted hi h0 (fun _ => hd) fun _ => hg
  case neither =>
    rintro (rfl | ⟨slot, rfl⟩) <;>
      exact exec_host_unfaulted hi h0 (by simp [Instr.needsDisplay]) (by simp [Instr.needsGame])

/-- Settles O7: `raiseFault` is that one update, with the code of R210 for each fault. -/
theorem raisingAFaultWritesOnlyFaultRegisters : Obligations.RaisingAFaultWritesOnlyFaultRegisters := by
  intro c op s
  cases c <;> rfl

/-- Settles O8: a halted step drops a word before it is decoded, and an operation's guard passes a halted state through. -/
theorem haltedBlockIgnoresWords : Obligations.HaltedBlockIgnoresWords :=
  fun _ hf => ⟨step_halted_tail hf, fun _ hi => exec_host_halted hi hf⟩

end Sys2Proof.Proofs
end

section
/-! The tick as one update chosen by its path (43_game.md R170, R187). -/

namespace Sys2Proof.Machine

/-- What step 3 of the tick leaves, for each of its outcomes, but for the transients. -/
def tickDecided (s : State) : TickPath → State
  | .commits => commit { s with work := pieceFrame s.cfg s.pid s.ori s.x s.y }
  | .revertsSide => revert s
  | .locks => spawn (rowClear (lock (revert s)))
  | .gameOver => start (revert s)

theorem tickDecided_revertsSide (s : State) :
    tickDecided s .revertsSide = { s with
      x := s.gx
      y := s.gy
      ori := s.gori
      work := pieceFrame s.cfg s.pid s.gori s.gx s.gy } := revert_eq s

theorem tickDecided_locks (s : State) :
    tickDecided s .locks = { s with
      board := (clearRows (s.board.or (pieceFrame s.cfg s.pid s.gori s.gx s.gy)) s.level).1
      level := (clearRows (s.board.or (pieceFrame s.cfg s.pid s.gori s.gx s.gy)) s.level).2
      work := pieceFrame s.cfg s.pid s.gori s.gx s.gy
      pid := s.pid ^^^ 1
      x := 3
      y := 0
      ori := 0
      gx := 3
      gy := 0
      gori := 0 } := by
  unfold tickDecided
  rw [revert_eq]
  rfl

theorem tickDecided_gameOver (s : State) :
    tickDecided s .gameOver = { s with
      board := Rows.zero
      level := s.cfg.levelInit
      speed := s.cfg.speedReload
      work := pieceFrame s.cfg s.pid s.gori s.gx s.gy
      pid := s.pid ^^^ 1
      x := 3
      y := 0
      ori := 0
      gx := 3
      gy := 0
      gori := 0 } := by
  unfold tickDecided
  rw [revert_eq, start_eq]
  rfl

/-- The path is decided by the working placement first: in bounds and free, or Side, or blocked. -/
theorem tickPath_eq_commits_iff (s : State) :
    tickPath s = .commits ↔ boundsOf s.cfg s.pid s.ori s.x s.y = .none ∧
      disjoint s.board (pieceFrame s.cfg s.pid s.ori s.x s.y) = true := by
  refine ⟨fun h => ?_, fun h => if_pos h⟩
  by_contra hne
  unfold tickPath at h
  rw [if_neg hne] at h
  split_ifs at h

theorem tickPath_revertsSide {s : State} (hb : boundsOf s.cfg s.pid s.ori s.x s.y = .side) :
    tickPath s = .revertsSide := by
  unfold tickPath
  rw [if_neg (by simp [hb]), if_pos hb]

/-- A blocked placement: not Side, and either Bottom or overlapping. -/
theorem tickPath_blocked {s : State} (hb : boundsOf s.cfg s.pid s.ori s.x s.y ≠ .side)
    (hd : boundsOf s.cfg s.pid s.ori s.x s.y = .bottom ∨
      disjoint s.board (pieceFrame s.cfg s.pid s.ori s.x s.y) = false) :
    tickPath s = if disjoint s.board (pieceFrame s.cfg s.pid s.gori s.gx s.gy) = true then .locks else .gameOver := by
  unfold tickPath
  rw [if_neg (by rcases hd with h | h <;> simp [h]), if_neg hb]

/-- The three ways the working placement decides step 3. -/
theorem placement_cases (s : State) :
    (boundsOf s.cfg s.pid s.ori s.x s.y = .none ∧
        disjoint s.board (pieceFrame s.cfg s.pid s.ori s.x s.y) = true) ∨
      boundsOf s.cfg s.pid s.ori s.x s.y = .side ∨
      (boundsOf s.cfg s.pid s.ori s.x s.y ≠ .side ∧ (boundsOf s.cfg s.pid s.ori s.x s.y = .bottom ∨
        disjoint s.board (pieceFrame s.cfg s.pid s.ori s.x s.y) = false)) := by
  cases hb : boundsOf s.cfg s.pid s.ori s.x s.y with
  | none => cases disjoint s.board (pieceFrame s.cfg s.pid s.ori s.x s.y) <;> simp
  | bottom => simp
  | side => simp

/-- GTICK's effect: step 3 by its path, then compose, count down, and drop the transients. -/
theorem tick_eq (s : State) :
    tick s = dropTransients (speedStep (composeHandoff (tickDecided s (tickPath s)))) := by
  unfold tick
  rcases placement_cases s with ⟨hb, hd⟩ | hb | ⟨hb, hd⟩
  · rw [tickDecide_commits s hb hd, (tickPath_eq_commits_iff s).mpr ⟨hb, hd⟩, tickFinish_eq, tickFinish_eq]
    rfl
  · rw [tickDecide_side s hb, tickPath_revertsSide hb, tickFinish_eq, tickFinish_eq]
    rfl
  · rw [tickDecide_blocked s hb hd, tickPath_blocked hb hd]
    cases disjoint s.board (pieceFrame s.cfg s.pid s.gori s.gx s.gy) with
    | true =>
      simp only [if_true, tickFinish_eq]
      rfl
    | false =>
      simp only [tickFinish_eq]
      rfl

/-- The tick on the path known beforehand. -/
theorem tick_of_path {s : State} {p : TickPath} (h : tickPath s = p) :
    tick s = dropTransients (speedStep (composeHandoff (tickDecided s p))) := by
  rw [tick_eq, h]

end Sys2Proof.Machine
end

section
/-! What the host operations' effects keep, and what a step of the machine can do. -/

namespace Sys2Proof.Machine

/-- What every host operation but DINIT and WROW keeps: the configuration and the port, the scanner's registers, the lines,
the traces, FAULT_OP, the contents of the slot being scanned, and a GAME_READY that is set. -/
structure ScannerKept (s t : State) : Prop where
  cfg : t.cfg = s.cfg
  port : t.port = s.port
  dispReady : t.dispReady = s.dispReady
  active : t.active = s.active
  cursor : t.cursor = s.cursor
  oe : t.oe = s.oe
  data : t.data = s.data
  sclk : t.sclk = s.sclk
  latch : t.latch = s.latch
  ltrace : t.ltrace = s.ltrace
  ptrace : t.ptrace = s.ptrace
  scanned : t.fb s.active = s.fb s.active
  faultOp : t.faultOp = s.faultOp
  gameReady : s.gameReady = true → t.gameReady = true

theorem ScannerKept.trans {s t u : State} (h : ScannerKept s t) (k : ScannerKept t u) : ScannerKept s u where
  cfg := k.cfg.trans h.cfg
  port := k.port.trans h.port
  dispReady := k.dispReady.trans h.dispReady
  active := k.active.trans h.active
  cursor := k.cursor.trans h.cursor
  oe := k.oe.trans h.oe
  data := k.data.trans h.data
  sclk := k.sclk.trans h.sclk
  latch := k.latch.trans h.latch
  ltrace := k.ltrace.trans h.ltrace
  ptrace := k.ptrace.trans h.ptrace
  scanned := by rw [← h.active, k.scanned, h.active, h.scanned]
  faultOp := k.faultOp.trans h.faultOp
  gameReady := k.gameReady ∘ h.gameReady

/-- What GINIT, GSTART and GCMD keep besides: both slots and the queue. -/
structure DisplayKept (s t : State) : Prop extends ScannerKept s t where
  pendV : t.pendV = s.pendV
  pend : t.pend = s.pend
  fb0 : t.fb0 = s.fb0
  fb1 : t.fb1 = s.fb1

theorem DisplayKept.fb {s t : State} (h : DisplayKept s t) : t.fb = s.fb := by
  funext slot
  rw [State.fb, h.fb0, h.fb1, State.fb]

theorem queueSlot_keepsScanner (slot : Slot) (s : State) : ScannerKept s (queueSlot slot s) :=
  ⟨rfl, rfl, rfl, rfl, rfl, rfl, rfl, rfl, rfl, rfl, rfl, rfl, rfl, id⟩

theorem gameInit_keepsDisplay (s : State) : DisplayKept s (gameInit s) :=
  ⟨⟨rfl, rfl, rfl, rfl, rfl, rfl, rfl, rfl, rfl, rfl, rfl, rfl, rfl, fun _ => rfl⟩, rfl, rfl, rfl, rfl⟩

theorem start_keepsDisplay (s : State) : DisplayKept s (start s) :=
  ⟨⟨rfl, rfl, rfl, rfl, rfl, rfl, rfl, rfl, rfl, rfl, rfl, rfl, rfl, id⟩, rfl, rfl, rfl, rfl⟩

/-- APPLY_CMD moves the working placement and nothing else (R164). -/
theorem applyCmd_eq (c : Command) (s : State) :
    applyCmd c s = { s with x := (applyCmd c s).x, y := (applyCmd c s).y, ori := (applyCmd c s).ori } := by
  cases c <;> rfl

theorem applyCmd_keepsDisplay (c : Command) (s : State) : DisplayKept s (applyCmd c s) := by
  rw [applyCmd_eq]
  exact ⟨⟨rfl, rfl, rfl, rfl, rfl, rfl, rfl, rfl, rfl, rfl, rfl, rfl, rfl, id⟩, rfl, rfl, rfl, rfl⟩

/-- Step 3 of the tick writes the game's registers, and no other. -/
theorem tickDecided_frame (s : State) (p : TickPath) :
    tickDecided s p = { s with
      board := (tickDecided s p).board
      work := (tickDecided s p).work
      pid := (tickDecided s p).pid
      x := (tickDecided s p).x
      y := (tickDecided s p).y
      ori := (tickDecided s p).ori
      gx := (tickDecided s p).gx
      gy := (tickDecided s p).gy
      gori := (tickDecided s p).gori
      speed := (tickDecided s p).speed
      level := (tickDecided s p).level } := by
  cases p with
  | commits => rfl
  | revertsSide => rfl
  | locks => rw [tickDecided_locks]
  | gameOver => rw [tickDecided_gameOver]

theorem tickDecided_keepsDisplay (s : State) (p : TickPath) : DisplayKept s (tickDecided s p) := by
  rw [tickDecided_frame]
  exact ⟨⟨rfl, rfl, rfl, rfl, rfl, rfl, rfl, rfl, rfl, rfl, rfl, rfl, rfl, id⟩, rfl, rfl, rfl, rfl⟩

/-- Steps 4 and 5 write the slot that is not scanned (R176). -/
theorem tickFinish_keepsScanner (s : State) : ScannerKept s (dropTransients (speedStep (composeHandoff s))) := by
  rw [tickFinish_eq]
  refine ⟨rfl, rfl, rfl, rfl, rfl, rfl, rfl, rfl, rfl, rfl, rfl, ?scanned, rfl, id⟩
  case scanned => rcases slot_cases s.active with h | h <;> simp [State.fb, h]

theorem tick_keepsScanner (s : State) : ScannerKept s (tick s) := by
  rw [tick_eq]
  exact (tickDecided_keepsDisplay s _).toScannerKept.trans (tickFinish_keepsScanner _)

@[simp] theorem hostEffect_dinit (slot : Slot) (s : State) : hostEffect (.dinit slot) s = displayInit slot s := rfl

@[simp] theorem hostEffect_setbuf (slot : Slot) (s : State) : hostEffect (.setbuf slot) s = queueSlot slot s := rfl

@[simp] theorem hostEffect_wrow (s : State) : hostEffect .wrow s = writeRow s := rfl

@[simp] theorem hostEffect_gtick (s : State) : hostEffect .gtick s = tick s := rfl

/-- A host operation is DINIT, WROW, or keeps what the scanner shows. -/
theorem hostEffect_keepsScanner {i : Instr} (hi : i.isHost = true) (hd : ∀ slot, i ≠ .dinit slot) (hw : i ≠ .wrow)
    (s : State) : ScannerKept s (hostEffect i s) := by
  cases i, hi using Instr.hostCases with
  | dinit slot => exact absurd rfl (hd slot)
  | setbuf slot => exact queueSlot_keepsScanner slot s
  | wrow => exact absurd rfl hw
  | ginit => exact (gameInit_keepsDisplay s).toScannerKept
  | gstart => exact (start_keepsDisplay s).toScannerKept
  | gtick => exact tick_keepsScanner s
  | gcmd c =>
    rw [hostEffect_gcmd]
    exact (applyCmd_keepsDisplay c s).toScannerKept

theorem hostEffect_keepsDisplay {i : Instr} (hi : i = .ginit ∨ i = .gstart ∨ ∃ c, i = gcmd c) (s : State) :
    DisplayKept s (hostEffect i s) := by
  obtain rfl | rfl | ⟨c, rfl⟩ := hi
  · exact gameInit_keepsDisplay s
  · exact start_keepsDisplay s
  · rw [hostEffect_gcmd]
    exact applyCmd_keepsDisplay c s

/-- A property of every host operation's effect: shown for DINIT, for WROW, and for what keeps the scanner. -/
theorem hostEffect_cases {motive : State → Prop} {s : State} (dinit : ∀ slot, motive (displayInit slot s))
    (wrow : motive (writeRow s)) (other : ∀ t, ScannerKept s t → motive t) {i : Instr} (hi : i.isHost = true) :
    motive (hostEffect i s) := by
  by_cases hd : ∃ slot, i = .dinit slot
  · obtain ⟨slot, rfl⟩ := hd
    exact dinit slot
  · by_cases hw : i = .wrow
    · subst hw
      exact wrow
    · exact other _ (hostEffect_keepsScanner hi (not_exists.mp hd) hw s)

theorem hostEffect_port {i : Instr} (hi : i.isHost = true) (s : State) : (hostEffect i s).port = s.port :=
  hostEffect_cases (motive := fun t => t.port = s.port) (fun slot => by rw [displayInit_eq]) (by rw [writeRow_eq])
    (fun _ h => h.port) hi

/-- The slot being scanned keeps its contents under every host operation (R31). -/
theorem hostEffect_fb_active {i : Instr} (hi : i.isHost = true) (s : State) :
    (hostEffect i s).fb s.active = s.fb s.active :=
  hostEffect_cases (motive := fun t => t.fb s.active = s.fb s.active) (fun slot => by rw [displayInit_eq]; rfl)
    (by rw [writeRow_eq]; rfl) (fun _ h => h.scanned) hi

/-- Only GTICK writes a slot (R31, R176). -/
theorem hostEffect_slots {i : Instr} (hi : i.isHost = true) (ht : i ≠ .gtick) (s : State) :
    (hostEffect i s).fb0 = s.fb0 ∧ (hostEffect i s).fb1 = s.fb1 := by
  cases i, hi using Instr.hostCases with
  | dinit slot =>
    rw [hostEffect_dinit, displayInit_eq]
    exact ⟨rfl, rfl⟩
  | setbuf slot => exact ⟨rfl, rfl⟩
  | wrow =>
    rw [hostEffect_wrow, writeRow_eq]
    exact ⟨rfl, rfl⟩
  | gtick => exact absurd rfl ht
  | ginit => exact ⟨rfl, rfl⟩
  | gstart => exact ⟨rfl, rfl⟩
  | gcmd c =>
    rw [hostEffect_gcmd]
    exact ⟨(applyCmd_keepsDisplay c s).fb0, (applyCmd_keepsDisplay c s).fb1⟩

/-- No effect clears a ready flag (R23, R28). -/
theorem hostEffect_readyFlags {i : Instr} (hi : i.isHost = true) (s : State) :
    (s.dispReady = true → (hostEffect i s).dispReady = true) ∧
      (s.gameReady = true → (hostEffect i s).gameReady = true) :=
  hostEffect_cases
    (motive := fun t => (s.dispReady = true → t.dispReady = true) ∧ (s.gameReady = true → t.gameReady = true))
    (fun slot => by
      rw [displayInit_eq]
      exact ⟨fun _ => rfl, id⟩)
    (by
      rw [writeRow_eq]
      exact ⟨id, id⟩)
    (fun _ h => ⟨fun hd => h.dispReady.trans hd, h.gameReady⟩) hi

theorem hostEffect_ready {i : Instr} (hi : i.isHost = true) {s : State} (h : Ready s) : Ready (hostEffect i s) :=
  ⟨(hostEffect_fault i s).trans h.1, (hostEffect_readyFlags hi s).1 h.2.1, (hostEffect_readyFlags hi s).2 h.2.2⟩

/-- A ready block performs every host operation. -/
theorem exec_host_ready {i : Instr} (hi : i.isHost = true) {s : State} (h : Ready s) : exec i s = .next (hostEffect i s) :=
  exec_host_runs hi h.1 (fun _ => h.2.1) fun _ => h.2.2

/-- What a step can do: wait, or drop a halted block's word; raise a fault; or take a host operation's effect. -/
theorem step_cases {s t : State} (h : step s = .next t) :
    t = { s with port := s.port.tail } ∨
      ∃ op rest, s.port = op :: rest ∧ s.fault = 0 ∧
        ((∃ c, t = raiseFault c op { s with port := rest }) ∨
          ∃ i : Instr, i.isHost = true ∧ encode i = op ∧ (i.needsDisplay = true → s.dispReady = true) ∧
            (i.needsGame = true → s.gameReady = true) ∧ t = hostEffect i { s with port := rest }) := by
  by_cases hf : s.fault = 0
  · cases hp : s.port with
    | nil =>
      rw [step_idle hp] at h
      cases h
      exact .inl (by rw [List.tail_nil, ← hp])
    | cons op rest =>
      refine .inr ⟨op, rest, rfl, hf, ?_⟩
      cases hd : decodeHost op with
      | reject c =>
        rw [step_reject hp hf hd] at h
        cases h
        exact .inl ⟨c, rfl⟩
      | ok i =>
        obtain ⟨hi, rfl⟩ := (decodeHost_ok_iff op i).mp hd
        rw [step_host hi hp hf, exec_host hi] at h
        cases h
        rcases guarded_cases (encode i) i.needsDisplay i.needsGame (hostEffect i) { s with port := rest } with
          ⟨hf', -⟩ | ⟨-, -, -, heq⟩ | ⟨-, -, -, heq⟩ | ⟨-, hdisp, hgame, heq⟩
        · exact absurd hf hf'
        · exact .inl ⟨_, heq⟩
        · exact .inl ⟨_, heq⟩
        · exact .inr ⟨i, hi, rfl, hdisp, hgame, heq⟩
  · rw [step_halted_tail hf] at h
    cases h
    exact .inl rfl

end Sys2Proof.Machine
end

section
/-! The row-clear pass on the list of rows (43_game.md R174). -/

namespace Sys2Proof

theorem Rows.getElem?_toList (b : Rows) (i : Fin 8) : b.toList[i.val]? = some (b.get i) := by
  match i with
  | 0 | 1 | 2 | 3 | 4 | 5 | 6 | 7 => rfl

theorem Rows.get_mem_toList (b : Rows) (i : Fin 8) : b.get i ∈ b.toList :=
  List.mem_of_getElem? (b.getElem?_toList i)

theorem Rows.toList_injective {a b : Rows} (h : a.toList = b.toList) : a = b :=
  Rows.ext_get fun i => Option.some.inj (by rw [← a.getElem?_toList, ← b.getElem?_toList, h])

/-- OR-ing a buffer in twice is OR-ing it in once. -/
theorem Rows.or_or_self (a b : Rows) : (a.or b).or b = a.or b :=
  Rows.ext_get fun i => by rw [Rows.get_or, Rows.get_or, BitVec.or_assoc, BitVec.or_self]

end Sys2Proof

namespace Sys2Proof.Machine

/-- Removing a row takes it out of the list and puts an empty row on top. -/
theorem toList_removeRow (b : Rows) (i : Fin 8) : (removeRow b i).toList = 0x00 :: b.toList.eraseIdx i.val := by
  match i with
  | 0 | 1 | 2 | 3 | 4 | 5 | 6 | 7 => rfl

/-- What the pass leaves of the rows it has scanned: as many empty rows as there were full ones, then the others in order. -/
def scannedRows (pre : List Byte) : List Byte := List.replicate (pre.count 0xFF) 0x00 ++ pre.filter (· ≠ 0xFF)

theorem scannedRows_append_full (pre : List Byte) : scannedRows (pre ++ [0xFF]) = 0x00 :: scannedRows pre := by
  simp [scannedRows, List.replicate_succ]

theorem scannedRows_append_notFull {v : Byte} (hv : v ≠ 0xFF) (pre : List Byte) :
    scannedRows (pre ++ [v]) = scannedRows pre ++ [v] := by
  have hkept : [v].filter (· ≠ 0xFF) = [v] := List.filter_eq_self.mpr (by simpa using hv)
  rw [scannedRows, List.count_append, List.count_cons_of_ne hv, List.count_nil, Nat.add_zero, List.filter_append,
    hkept, ← List.append_assoc, scannedRows]

theorem length_scannedRows (pre : List Byte) : (scannedRows pre).length = pre.length := by
  induction pre using List.reverseRecOn with
  | nil => rfl
  | append_singleton pre v ih =>
    by_cases hv : v = 0xFF
    · rw [hv, scannedRows_append_full, List.length_cons, ih, List.length_append, List.length_singleton]
    · rw [scannedRows_append_notFull hv, List.length_append, ih, List.length_append]

/-- No scanned row is full. -/
theorem scannedRows_ne_full {pre : List Byte} {v : Byte} (h : v ∈ scannedRows pre) : v ≠ 0xFF := by
  rcases List.mem_append.mp h with h | h
  · rw [List.eq_of_mem_replicate h]
    decide
  · exact of_decide_eq_true (List.mem_filter.mp h).2

/-- One step of the pass, on the list: the rows in `pre` are scanned, and v is the row at i. -/
theorem clearStep_scanned {b : Rows} {level : Byte} {i : Fin 8} {pre suf : List Byte} {v : Byte}
    (hlen : pre.length = i.val) (hb : b.toList = scannedRows pre ++ v :: suf) :
    (clearStep (b, level) i).1.toList = scannedRows (pre ++ [v]) ++ suf ∧
      (clearStep (b, level) i).2 = level + BitVec.ofNat 8 ([v].count 0xFF) := by
  have hlen' : (scannedRows pre).length = i.val := (length_scannedRows pre).trans hlen
  have hv : b.get i = v := by
    have hget := b.getElem?_toList i
    rw [hb, ← hlen', List.getElem?_append_right (Nat.le_refl _), Nat.sub_self, List.getElem?_cons_zero] at hget
    exact (Option.some.inj hget).symm
  by_cases hfull : v = 0xFF
  · rw [clearStep_full (hv.trans hfull), hfull, scannedRows_append_full, toList_removeRow, hb, ← hlen',
      List.eraseIdx_append_of_length_le (Nat.le_refl _), Nat.sub_self, List.eraseIdx_cons_zero]
    exact ⟨rfl, rfl⟩
  · rw [clearStep_notFull (hv.trans_ne hfull), scannedRows_append_notFull hfull, hb, List.append_assoc,
      List.count_eq_zero_of_not_mem (by simpa using Ne.symm hfull)]
    exact ⟨rfl, (BitVec.add_zero _).symm⟩

/-- The pass before row n: the rows above n are scanned, the others untouched, and LEVEL has counted the full ones. -/
theorem clearPass_spec (b : Rows) (level : Byte) {n : Nat} (hn : n ≤ 8) :
    (clearPass b level n).1.toList = scannedRows (b.toList.take n) ++ b.toList.drop n ∧
      (clearPass b level n).2 = level + BitVec.ofNat 8 ((b.toList.take n).count 0xFF) := by
  induction n with
  | zero => exact ⟨rfl, (BitVec.add_zero _).symm⟩
  | succ n ih =>
    obtain ⟨hrows, hlevel⟩ := ih (Nat.le_of_succ_le hn)
    have hlt : n < b.toList.length := hn
    rw [List.drop_eq_getElem_cons hlt] at hrows
    have hlen : (b.toList.take n).length = n := List.length_take_of_le hlt.le
    have hstep := clearStep_scanned (level := (clearPass b level n).2) (i := ⟨n, hn⟩) hlen hrows
    rw [← List.take_append_getElem hlt, List.count_append, BitVec.ofNat_add, ← BitVec.add_assoc, ← hlevel,
      clearPass_succ b level ⟨n, hn⟩]
    exact hstep

/-- The whole pass leaves every row scanned. -/
theorem clearRows_spec (b : Rows) (level : Byte) :
    (clearRows b level).1.toList = scannedRows b.toList ∧
      (clearRows b level).2 = level + BitVec.ofNat 8 (b.toList.count 0xFF) := by
  have htake : b.toList.take 8 = b.toList := rfl
  have hdrop : b.toList.drop 8 = [] := rfl
  have h := clearPass_spec b level (Nat.le_refl 8)
  rwa [clearPass_eight, htake, hdrop, List.append_nil] at h

theorem get_clearRows_ne_full (b : Rows) (level : Byte) (i : Fin 8) : (clearRows b level).1.get i ≠ fullRow :=
  scannedRows_ne_full ((clearRows_spec b level).1 ▸ Rows.get_mem_toList _ i)

/-- Without a full row the pass changes nothing. -/
theorem clearRows_of_notFull {b : Rows} (h : ∀ i, b.get i ≠ 0xFF) (level : Byte) : clearRows b level = (b, level) := by
  have hmem : ∀ v ∈ b.toList, v ≠ 0xFF := by
    intro v hv
    obtain ⟨n, hn, rfl⟩ := List.mem_iff_getElem.mp hv
    rw [Option.some.inj ((List.getElem?_eq_getElem hn).symm.trans (b.getElem?_toList ⟨n, hn⟩))]
    exact h ⟨n, hn⟩
  have hcount : b.toList.count 0xFF = 0 := List.count_eq_zero_of_not_mem fun hm => hmem _ hm rfl
  obtain ⟨hrows, hlevel⟩ := clearRows_spec b level
  rw [scannedRows, hcount, List.filter_eq_self.mpr fun v hv => decide_eq_true (hmem v hv)] at hrows
  rw [hcount] at hlevel
  exact Prod.ext (Rows.toList_injective hrows) (hlevel.trans (BitVec.add_zero _))

end Sys2Proof.Machine
end

section
/-! The table's decoder on the words of `encode` (30_encoding.md R75, R76). -/

namespace Sys2Proof

/-- A host operation's word lies below the identifiers, where the table is the host port's decoder. -/
theorem decodeTable_host {i : Instr} (hi : i.isHost = true) : decodeTable (encode i) (callArgs i) = .ok i := by
  have hlow : ¬0x8 ≤ opcodeOf (encode i) := fun h => by
    have hreject := decodeHost_illegalOpcode (.inr h)
    rw [decodeHost_encode hi] at hreject
    cases hreject
  rw [decodeTable, if_neg hlow, decodeHost_encode hi]

/-- A micro-operation is the one its identifier names, with the operands beside it. -/
theorem decodeTable_micro {i : Instr} (hi : ¬i.isHost = true) : decodeTable (encode i) (callArgs i) = .ok i := by
  cases i with
  | dinit | setbuf | wrow | ginit | gstart | gtick | gcmdNone | gcmdRot | gcmdLeft | gcmdRight | gcmdDown =>
    exact absurd rfl hi
  | _ => simp [decodeTable, decodeMicro, encode, callArgs, opcodeOf]

end Sys2Proof
end

section
/-! The block's invariant under each effect (10_state.md sections 2 and 5, 60_exceptions.md R210, 90_conflicts.md C6). -/

namespace Sys2Proof.Machine

/-- Every entry of a configuration has extents 1 to 8 (R101 (a), (b)). -/
theorem catRead_extents (c : Config) (p : PieceId) (o : Orient) :
    1 ≤ (catRead c p o).w.toNat ∧ (catRead c p o).w.toNat ≤ 8 ∧ 1 ≤ (catRead c p o).h.toNat ∧
      (catRead c p o).h.toNat ≤ 8 := by
  obtain ⟨⟨hw, hh⟩, ⟨hw8, hh8⟩, -⟩ := (CatEntry.admitted_iff _).mp (catRead_admitted c p o)
  exact ⟨hw, hw8, hh, hh8⟩

/-- The spawn placement is in bounds for both pieces (R101 (d)). -/
theorem boundsOf_spawn (c : Config) (p : PieceId) : boundsOf c p spawnO spawnX spawnY = .none := by
  obtain ⟨-, hfits⟩ := (Catalog.admitted_iff c.catalog).mp c.catalogAdmitted
  have hp : (catRead c p spawnO).spawnFits = true := by
    rcases slot_cases p with rfl | rfl
    · exact hfits _ (by simp [catRead, spawnO, Piece.at])
    · exact hfits _ (by simp [catRead, spawnO, Piece.at])
  obtain ⟨hw, hh⟩ := (CatEntry.spawnFits_iff _).mp hp
  exact boundsOf_none hw hh

/-- The last level is that of the later events, where they drive the line. -/
theorem lastLevel_append (l : Line) (es fs : List PinEvent) :
    lastLevel l (es ++ fs) = (lastLevel l fs).or (lastLevel l es) := by
  rw [lastLevel, List.filter_append, List.getLast?_append, Option.map_or]
  rfl

theorem zero_notFull (i : Fin 8) : Rows.zero.get i ≠ fullRow := by
  rw [Rows.get_zero]
  decide

/-- The codes of R210 are 1 to 5. -/
theorem faultCode_le (c : FaultCode) : (faultCode c).toNat ≤ 5 := by
  cases c <;> decide

/-- SHIFT_OUT drives every line: DATA ends at bit 0 and the clock lines low (R117). -/
theorem lastLevel_shiftEvents (w : SerialWord) (l : Line) :
    lastLevel l (shiftEvents w) = some (match l with
      | .data => w.getLsbD 0
      | .sclk => false
      | .latch => false) := by
  cases l <;> rfl

theorem getLsbD_zero_serialWord (p r : Byte) : (serialWord p r).getLsbD 0 = r.getLsbD 0 := BitVec.getLsbD_append

/-- The invariant does not read the port. -/
theorem blockInv_port {s : State} (h : BlockInv s) (p : List Byte) : BlockInv { s with port := p } := { h with }

theorem blockInv_raiseFault {s : State} (h : BlockInv s) (c : FaultCode) (op : Byte) : BlockInv (raiseFault c op s) :=
  { h with faultLegal := faultCode_le c }

theorem blockInv_displayInit {s : State} (h : BlockInv s) (slot : Slot) : BlockInv (displayInit slot s) := by
  rw [displayInit_eq]
  exact { h with
    readyDriven := fun _ => rfl
    undrivenEmpty := nofun
    clocksIdle := fun _ => ⟨rfl, rfl⟩
    linesHold := fun _ l => by
      rw [lastLevel_append]
      cases l <;> rfl }

theorem blockInv_writeRow {s : State} (h : BlockInv s) (hd : s.dispReady = true) : BlockInv (writeRow s) := by
  rw [writeRow_eq]
  exact { h with
    undrivenEmpty := fun hoe => absurd ((h.readyDriven hd).symm.trans hoe) (by decide)
    clocksIdle := fun _ => ⟨rfl, rfl⟩
    linesHold := fun _ l => by
      rw [lastLevel_append, lastLevel_shiftEvents, getLsbD_zero_serialWord]
      cases l <;> rfl }

theorem blockInv_queueSlot {s : State} (h : BlockInv s) (slot : Slot) : BlockInv (queueSlot slot s) := { h with }

theorem blockInv_gameInit {s : State} (h : BlockInv s) : BlockInv (gameInit s) :=
  { h with
    shadowInBounds := fun _ => boundsOf_spawn _ _
    boardCleared := fun _ => zero_notFull }

theorem blockInv_start {s : State} (h : BlockInv s) : BlockInv (start s) :=
  { h with
    shadowInBounds := fun _ => boundsOf_spawn _ _
    boardCleared := fun _ => zero_notFull }

theorem blockInv_applyCmd {s : State} (h : BlockInv s) (c : Command) : BlockInv (applyCmd c s) := by
  rw [applyCmd_eq]
  exact { h with }

/-- Where the scanner's part is kept, what is left of the invariant is FAULT, the shadow, the board and the transients. -/
theorem blockInv_of_scannerKept {s t : State} (h : BlockInv s) (k : ScannerKept s t) (hfault : t.fault = s.fault)
    (hshadow : t.gameReady = true → boundsOf t.cfg t.pid t.gori t.gx t.gy = .none)
    (hboard : t.gameReady = true → ∀ i, t.board.get i ≠ fullRow)
    (htrans : t.br = none ∧ t.ovf = none ∧ t.entry = none) : BlockInv t where
  faultLegal := hfault ▸ h.faultLegal
  readyDriven := k.oe ▸ k.dispReady ▸ h.readyDriven
  undrivenEmpty := k.oe ▸ k.ltrace ▸ k.ptrace ▸ h.undrivenEmpty
  clocksIdle := k.oe ▸ k.sclk ▸ k.latch ▸ h.clocksIdle
  linesHold := fun hoe l => by
    have hl : lineLevel t l = lineLevel s l := by
      cases l with
      | data => exact k.data
      | sclk => exact k.sclk
      | latch => exact k.latch
    rw [k.ptrace, hl]
    exact h.linesHold (k.oe ▸ hoe) l
  shadowInBounds := hshadow
  boardCleared := hboard
  transientsIdle := htrans

/-- Step 3 leaves a shadow placement that is in bounds: it commits only what the bounds check passed, or spawns. -/
theorem tickDecided_shadow {s : State} (h : boundsOf s.cfg s.pid s.gori s.gx s.gy = .none) :
    let u := tickDecided s (tickPath s)
    boundsOf u.cfg u.pid u.gori u.gx u.gy = .none := by
  cases hp : tickPath s with
  | commits => exact ((tickPath_eq_commits_iff s).mp hp).1
  | revertsSide => exact h
  | locks => exact boundsOf_spawn _ _
  | gameOver => exact boundsOf_spawn _ _

/-- Step 3 leaves a board without full rows: it keeps the board, clears its full rows, or empties it (C6). -/
theorem tickDecided_board {s : State} (h : ∀ i, s.board.get i ≠ fullRow) (p : TickPath) (i : Fin 8) :
    (tickDecided s p).board.get i ≠ fullRow := by
  cases p with
  | commits => exact h i
  | revertsSide => exact h i
  | locks => exact get_clearRows_ne_full _ _ i
  | gameOver => exact zero_notFull i

theorem blockInv_tick {s : State} (h : BlockInv s) (hg : s.gameReady = true) : BlockInv (tick s) := by
  refine blockInv_of_scannerKept h (tick_keepsScanner s) (tick_fault s) (fun _ => ?shadow) (fun _ => ?board) ?transients
  all_goals rw [tick_eq, tickFinish_eq]
  case shadow => exact tickDecided_shadow (h.shadowInBounds hg)
  case board => exact tickDecided_board (h.boardCleared hg) _
  case transients => exact ⟨rfl, rfl, rfl⟩

theorem blockInv_hostEffect {i : Instr} (hi : i.isHost = true) {s : State} (h : BlockInv s)
    (hdisp : i.needsDisplay = true → s.dispReady = true) (hgame : i.needsGame = true → s.gameReady = true) :
    BlockInv (hostEffect i s) := by
  cases i, hi using Instr.hostCases with
  | dinit slot => exact blockInv_displayInit h slot
  | setbuf slot => exact blockInv_queueSlot h slot
  | wrow => exact blockInv_writeRow h (hdisp rfl)
  | ginit => exact blockInv_gameInit h
  | gstart => exact blockInv_start h
  | gtick => exact blockInv_tick h (hgame rfl)
  | gcmd c =>
    rw [hostEffect_gcmd]
    exact blockInv_applyCmd h c

end Sys2Proof.Machine
end

section
/-! Agreement on everything written or specified, under each effect (70_reset_and_hazards.md R242). -/

namespace Sys2Proof.Machine

/-- Step 3 neither reads nor writes the lines, the queue, FAULT_OP and the traces. -/
theorem tickDecided_outputs (s : State) (d k l : Bool) (q : Slot) (f : Byte) (lt : List (Byte × Byte))
    (pt : List PinEvent) (p : TickPath) :
    tickDecided { s with data := d, sclk := k, latch := l, pend := q, faultOp := f, ltrace := lt, ptrace := pt } p =
      { tickDecided s p with data := d, sclk := k, latch := l, pend := q, faultOp := f, ltrace := lt, ptrace := pt } := by
  cases p with
  | commits => rfl
  | revertsSide => rfl
  | locks => rw [tickDecided_locks, tickDecided_locks]
  | gameOver => rw [tickDecided_gameOver, tickDecided_gameOver]

/-- The tick reads none of the lines, PEND, FAULT_OP and the traces, and writes only PEND of them. -/
theorem tick_outputs (s : State) (d k l : Bool) (q : Slot) (f : Byte) (lt : List (Byte × Byte)) (pt : List PinEvent) :
    tick { s with data := d, sclk := k, latch := l, pend := q, faultOp := f, ltrace := lt, ptrace := pt } =
      { tick s with data := d, sclk := k, latch := l, faultOp := f, ltrace := lt, ptrace := pt } := by
  have hpath : tickPath { s with
      data := d, sclk := k, latch := l, pend := q, faultOp := f, ltrace := lt, ptrace := pt } = tickPath s := rfl
  rw [tick_eq, tick_eq, hpath, tickDecided_outputs, tickFinish_eq, tickFinish_eq]

/-- With both parts ready, agreeing states differ at most in undriven lines, an empty queue and FAULT_OP: every other field
is one that the flags make agree. -/
theorem eq_of_agree {s t : State} (h : AgreeWhereWritten s t) (hd : s.dispReady = true) (hg : s.gameReady = true) :
    t = { s with data := t.data, sclk := t.sclk, latch := t.latch, pend := t.pend, faultOp := t.faultOp } := by
  obtain ⟨hactive, hcursor, hpendV⟩ := h.scanner hd
  obtain ⟨hpid, hx, hy, hori⟩ := h.piece hg
  obtain ⟨hgx, hgy, hgori⟩ := h.shadow hg
  obtain ⟨hspeed, hlevel⟩ := h.counters hg
  obtain ⟨hboard, hwork⟩ := h.buffers hg
  cases s
  cases t
  cases h
  simp_all

theorem agree_port {s t : State} (h : AgreeWhereWritten s t) (p : List Byte) :
    AgreeWhereWritten { s with port := p } { t with port := p } := { h with port := rfl }

theorem agree_raiseFault {s t : State} (h : AgreeWhereWritten s t) (c : FaultCode) (op : Byte) :
    AgreeWhereWritten (raiseFault c op s) (raiseFault c op t) :=
  { h with
    fault := rfl
    faultOp := fun _ => rfl }

/-- DINIT writes the scanner's registers and the lines whatever they held. -/
theorem agree_displayInit {s t : State} (h : AgreeWhereWritten s t) (slot : Slot) :
    AgreeWhereWritten (displayInit slot s) (displayInit slot t) := by
  rw [displayInit_eq, displayInit_eq]
  exact { h with
    dispReady := rfl
    oe := rfl
    ptrace := congrArg (· ++ _) h.ptrace
    lines := fun _ => ⟨rfl, rfl, rfl⟩
    scanner := fun _ => ⟨rfl, rfl, rfl⟩
    pending := nofun }

theorem agree_queueSlot {s t : State} (h : AgreeWhereWritten s t) (slot : Slot) :
    AgreeWhereWritten (queueSlot slot s) (queueSlot slot t) :=
  { h with
    scanner := fun hd => ⟨(h.scanner hd).1, (h.scanner hd).2.1, rfl⟩
    pending := fun _ _ => rfl }

/-- WROW shows the active slot's row and ROWSEL's byte, which agree once DINIT has run. -/
theorem agree_writeRow {s t : State} (h : AgreeWhereWritten s t) (hd : s.dispReady = true) :
    AgreeWhereWritten (writeRow s) (writeRow t) := by
  obtain ⟨hactive, hcursor, hpendV⟩ := h.scanner hd
  have hpixel : pixelByte s = pixelByte t := by
    simp only [pixelByte, State.fb, hactive, hcursor, h.fb0, h.fb1]
  have hrow : rowsel s.cfg s.cursor = rowsel t.cfg t.cursor := by rw [h.cfg, hcursor]
  have hnext : (if t.cursor = 7 ∧ t.pendV = true then s.pend else t.active) =
      if t.cursor = 7 ∧ t.pendV = true then t.pend else t.active := by
    split_ifs with hswap
    · exact h.pending hd (hpendV.trans hswap.2)
    · rfl
  have hqueued (hp : (if t.cursor = 7 then false else t.pendV) = true) : t.pendV = true := by
    split_ifs at hp
    exact hp
  rw [writeRow_eq, writeRow_eq, hpixel, hrow, hcursor, hpendV, hactive]
  exact { h with
    ltrace := congrArg (· ++ _) h.ltrace
    ptrace := congrArg (· ++ _) h.ptrace
    lines := fun _ => ⟨rfl, rfl, rfl⟩
    scanner := fun _ => ⟨hnext, rfl, rfl⟩
    pending := fun _ hp => h.pending hd (hpendV.trans (hqueued hp)) }

theorem agree_gameInit {s t : State} (h : AgreeWhereWritten s t) : AgreeWhereWritten (gameInit s) (gameInit t) :=
  { h with
    gameReady := rfl
    piece := fun _ => ⟨rfl, rfl, rfl, rfl⟩
    shadow := fun _ => ⟨rfl, rfl, rfl⟩
    counters := fun _ => ⟨congrArg Config.speedReload h.cfg, congrArg Config.levelInit h.cfg⟩
    buffers := fun _ => ⟨rfl, rfl⟩ }

theorem agree_start {s t : State} (h : AgreeWhereWritten s t) : AgreeWhereWritten (start s) (start t) :=
  { h with
    piece := fun hg => ⟨congrArg (· ^^^ 1) (h.piece hg).1, rfl, rfl, rfl⟩
    shadow := fun _ => ⟨rfl, rfl, rfl⟩
    counters := fun _ => ⟨congrArg Config.speedReload h.cfg, congrArg Config.levelInit h.cfg⟩
    buffers := fun hg => ⟨rfl, (h.buffers hg).2⟩ }

theorem applyCmd_placement_congr {s t : State} (c : Command) (hx : s.x = t.x) (hy : s.y = t.y) (hori : s.ori = t.ori) :
    (applyCmd c s).x = (applyCmd c t).x ∧ (applyCmd c s).y = (applyCmd c t).y ∧
      (applyCmd c s).ori = (applyCmd c t).ori := by
  cases c <;> simp [applyCmd, hx, hy, hori]

theorem agree_applyCmd {s t : State} (h : AgreeWhereWritten s t) (c : Command) :
    AgreeWhereWritten (applyCmd c s) (applyCmd c t) := by
  rw [applyCmd_eq c s, applyCmd_eq c t]
  exact { h with piece := fun hg =>
    have ⟨hpid, hx, hy, hori⟩ := h.piece hg
    ⟨hpid, applyCmd_placement_congr c hx hy hori⟩ }

theorem agree_tick {s t : State} (h : AgreeWhereWritten s t) (h0 : s.fault = 0) (hd : s.dispReady = true)
    (hg : s.gameReady = true) : AgreeWhereWritten (tick s) (tick t) := by
  have k := tick_keepsScanner s
  have htick : tick t = { tick s with
      data := t.data, sclk := t.sclk, latch := t.latch, faultOp := t.faultOp, ltrace := s.ltrace, ptrace := s.ptrace } := by
    rw [eq_of_agree h hd hg]
    exact tick_outputs s _ _ _ _ _ _ _
  have hfault : (tick s).fault = 0 := (tick_fault s).trans h0
  rw [htick]
  generalize tick s = v at k hfault
  exact {
    cfg := rfl, port := rfl, dispReady := rfl, gameReady := rfl, fault := rfl, oe := rfl, fb0 := rfl, fb1 := rfl
    ltrace := k.ltrace, ptrace := k.ptrace, br := rfl, ovf := rfl, entry := rfl
    faultOp := fun hf => absurd hfault hf
    lines := fun hoe => by
      rw [k.data, k.sclk, k.latch]
      exact h.lines (k.oe ▸ hoe)
    scanner := fun _ => ⟨rfl, rfl, rfl⟩
    pending := fun _ _ => rfl
    piece := fun _ => ⟨rfl, rfl, rfl, rfl⟩
    shadow := fun _ => ⟨rfl, rfl, rfl⟩
    counters := fun _ => ⟨rfl, rfl⟩
    buffers := fun _ => ⟨rfl, rfl⟩ }

theorem agree_hostEffect {i : Instr} (hi : i.isHost = true) {s t : State} (h : AgreeWhereWritten s t) (h0 : s.fault = 0)
    (hdisp : i.needsDisplay = true → s.dispReady = true) (hgame : i.needsGame = true → s.gameReady = true) :
    AgreeWhereWritten (hostEffect i s) (hostEffect i t) := by
  cases i, hi using Instr.hostCases with
  | dinit slot => exact agree_displayInit h slot
  | setbuf slot => exact agree_queueSlot h slot
  | wrow => exact agree_writeRow h (hdisp rfl)
  | ginit => exact agree_gameInit h
  | gstart => exact agree_start h
  | gtick => exact agree_tick h h0 (hdisp rfl) (hgame rfl)
  | gcmd c =>
    rw [hostEffect_gcmd]
    exact agree_applyCmd h c

/-- Agreeing states pass the same guards (R213). -/
theorem agree_guarded {i : Instr} (hi : i.isHost = true) {s t : State} (h : AgreeWhereWritten s t) (op : Byte) :
    AgreeWhereWritten (guarded op i.needsDisplay i.needsGame (hostEffect i) s)
      (guarded op i.needsDisplay i.needsGame (hostEffect i) t) := by
  unfold guarded
  rw [← h.fault, ← h.dispReady, ← h.gameReady]
  split_ifs with hf hd hg
  · exact h
  · exact agree_raiseFault h _ op
  · exact agree_raiseFault h _ op
  · exact agree_hostEffect hi h (Classical.not_not.mp hf) (by simpa using hd) (by simpa using hg)

end Sys2Proof.Machine
end

section
/-! The tier 3 statements: the round trip, the invariant, and the registers that never show. -/

namespace Sys2Proof.Proofs
open Sys2Proof Sys2Proof.Machine

/-- Settles O2: a host operation's word has OP[7] = 0, so the table reads it with the host port's decoder, which reads every
host word back; a micro-operation is read back from its identifier and its operands. -/
theorem decodeReadsBackEveryEncoding : Obligations.DecodeReadsBackEveryEncoding := by
  intro i
  refine ⟨?_, decodeHost_encode⟩
  by_cases hi : i.isHost = true
  · exact decodeTable_host hi
  · exact decodeTable_micro hi

/-- Settles O59: each thing a step can do keeps the invariant, the port being none of its business. -/
theorem stepKeepsInvariant : Obligations.StepKeepsInvariant := by
  intro s t h hstep
  rcases step_cases hstep with rfl | ⟨op, rest, -, -, ⟨c, rfl⟩ | ⟨i, hi, -, hdisp, hgame, rfl⟩⟩
  · exact blockInv_port h _
  · exact blockInv_raiseFault (blockInv_port h rest) c op
  · exact blockInv_hostEffect hi (blockInv_port h rest) hdisp hgame

/-- Settles O60: the word and the guards are read from registers that agree, and each effect then writes agreeing values. -/
theorem unspecifiedRegistersNeverShow : Obligations.UnspecifiedRegistersNeverShow := by
  intro s t h
  cases hp : s.port with
  | nil => exact ⟨s, t, step_idle hp, step_idle (h.port ▸ hp), h⟩
  | cons op rest =>
    have ht : t.port = op :: rest := h.port ▸ hp
    have hu := agree_port h rest
    by_cases hf : s.fault = 0
    · have hf' : t.fault = 0 := h.fault ▸ hf
      cases hdec : decodeHost op with
      | reject c =>
        exact ⟨_, _, step_reject hp hf hdec, step_reject ht hf' hdec, agree_raiseFault hu c op⟩
      | ok i =>
        obtain ⟨hi, rfl⟩ := (decodeHost_ok_iff op i).mp hdec
        exact ⟨_, _, (step_host hi hp hf).trans (exec_host hi _), (step_host hi ht hf').trans (exec_host hi _),
          agree_guarded hi hu _⟩
    · exact ⟨_, _, step_halted hp hf, step_halted ht (h.fault ▸ hf), hu⟩

end Sys2Proof.Proofs
end

section
/-! The tick's result: where it leaves the placement, and the slot it composes (43_game.md sections 3 and 4). -/

namespace Sys2Proof.Machine

/-- A ready block performs the tick. -/
theorem exec_gtick_ready {s : State} (h : Ready s) : exec .gtick s = .next (tick s) :=
  exec_host_ready (i := .gtick) rfl h

theorem eq_tick_of_exec {s t : State} (h : Ready s) (ht : exec .gtick s = .next t) : t = tick s :=
  Host.Outcome.next.inj (ht.symm.trans (exec_gtick_ready h))

/-- Step 3 leaves the working placement at the shadow on every path (R39). -/
theorem tickDecided_atShadow (s : State) (p : TickPath) :
    (tickDecided s p).x = (tickDecided s p).gx ∧ (tickDecided s p).y = (tickDecided s p).gy ∧
      (tickDecided s p).ori = (tickDecided s p).gori := by
  cases p <;> exact ⟨rfl, rfl, rfl⟩

/-- After the tick the working placement is the shadow, or one row below it where gravity fired. -/
theorem tick_atShadow (s : State) :
    (tick s).x = (tick s).gx ∧ (tick s).ori = (tick s).gori ∧
      ((tick s).y = (tick s).gy ∨ (tick s).y = (tick s).gy + 1 ∧ (tick s).speed = (tick s).cfg.speedReload) := by
  obtain ⟨hx, hy, hori⟩ := tickDecided_atShadow s (tickPath s)
  rw [tick_eq, tickFinish_eq]
  generalize tickDecided s (tickPath s) = u at hx hy hori
  refine ⟨hx, hori, ?_⟩
  by_cases hfires : u.speed - 1 = u.level
  · exact .inr ⟨by simp only [hfires, hy, if_true], by simp only [hfires, if_true]⟩
  · exact .inl (by simp only [hfires, hy, if_false])

/-- What the bounds check's None says of the sums (R141). -/
theorem inBounds_of_none {c : Config} {p : PieceId} {o : Orient} {x y : Coord} (h : boundsOf c p o x y = .none) :
    x.toNat + (catRead c p o).w.toNat ≤ 8 ∧ y.toNat + (catRead c p o).h.toNat ≤ 8 := by
  rcases boundsOf_cases c p o x y with ⟨-, heq⟩ | ⟨-, -, heq⟩ | ⟨hx, hy, -⟩
  · simp [heq] at h
  · simp [heq] at h
  · exact ⟨hx, hy⟩

/-- A placement in bounds lies at 0 to 7 in both directions, since every extent is at least 1. -/
theorem le_seven_of_inBounds {c : Config} {p : PieceId} {o : Orient} {x y : Coord} (h : boundsOf c p o x y = .none) :
    x.toNat ≤ 7 ∧ y.toNat ≤ 7 := by
  obtain ⟨hw, -, hh, -⟩ := catRead_extents c p o
  obtain ⟨hx, hy⟩ := inBounds_of_none h
  omega

/-- After a tick that leaves its shadow in bounds, gravity has moved Y at most one row below it. -/
theorem tick_placement_le {s : State}
    (h : boundsOf (tick s).cfg (tick s).pid (tick s).gori (tick s).gx (tick s).gy = .none) :
    (tick s).x.toNat ≤ 7 ∧ (tick s).y.toNat ≤ 8 := by
  obtain ⟨hgx, hgy⟩ := le_seven_of_inBounds h
  obtain ⟨hx, -, hy⟩ := tick_atShadow s
  refine ⟨hx ▸ hgx, ?_⟩
  rcases hy with hy | ⟨hy, -⟩ <;> rw [hy]
  · omega
  · bv_omega

/-- One command from such a placement moves one component by one; a Left from 0 wraps to 15 (R164). -/
theorem applyCmd_placement_near {s : State} (c : Command) (hx : s.x.toNat ≤ 7) (hy : s.y.toNat ≤ 8) :
    ((applyCmd c s).x.toNat ≤ 8 ∨ (applyCmd c s).x.toNat = 15) ∧ (applyCmd c s).y.toNat ≤ 9 := by
  cases c with
  | none =>
    rw [applyCmd_none]
    omega
  | rotate =>
    rw [applyCmd_rotate]
    exact ⟨.inl (Nat.le_succ_of_le hx), Nat.le_succ_of_le hy⟩
  | left =>
    rw [applyCmd_left]
    bv_omega
  | right =>
    rw [applyCmd_right]
    bv_omega
  | down =>
    rw [applyCmd_down]
    bv_omega

theorem pieceId_xor_one_ne (p : PieceId) : p ^^^ 1 ≠ p := by
  revert p
  decide

/-- The slot that a frame is composed into. -/
theorem fb_other_tickFinish (s : State) :
    (dropTransients (speedStep (composeHandoff s))).fb (1 - s.active) = s.board.or s.work := by
  rw [tickFinish_eq]
  rcases slot_cases s.active with h | h <;> rw [h] <;> rfl

end Sys2Proof.Machine
end

section
/-! The statements about the tick. -/

namespace Sys2Proof.Proofs
open Sys2Proof Sys2Proof.Machine

/-- Settles O48: on the committing path step 3 is COMMIT of the piece just blitted. -/
theorem tickCommitsFreePlacement : Obligations.TickCommitsFreePlacement := by
  intro s hs hb hd w
  have hp : tickPath s = .commits := (tickPath_eq_commits_iff s).mpr ⟨hb, hd⟩
  rw [exec_gtick_ready hs, tick_of_path hp, tickFinish_eq]
  rfl

/-- Settles O49: on the Side path step 3 is REVERT alone. -/
theorem tickRevertsSideViolation : Obligations.TickRevertsSideViolation := by
  intro s hs hb w
  rw [exec_gtick_ready hs, tick_of_path (tickPath_revertsSide hb), tickFinish_eq]
  rfl

/-- Settles O50: on the locking path step 3 is REVERT, then LOCK, ROW_CLEAR and SPAWN; WORK keeps the reverted piece. -/
theorem tickLocksBlockedPiece : Obligations.TickLocksBlockedPiece := by
  intro s hs hb hd hfree w cleared
  have hp : tickPath s = .locks := (tickPath_blocked hb hd).trans (if_pos hfree)
  rw [exec_gtick_ready hs, tick_of_path hp, tickDecided_locks, tickFinish_eq]
  rfl

/-- Settles O51: on the game-over path step 3 is REVERT, then START; the empty board adds nothing to the frame. -/
theorem tickRestartsAtGameOver : Obligations.TickRestartsAtGameOver := by
  intro s hs hb hd hover w
  have hp : tickPath s = .gameOver := (tickPath_blocked hb hd).trans (if_neg (by simp [hover]))
  rw [exec_gtick_ready hs, tick_of_path hp, tickDecided_gameOver, tickFinish_eq, Rows.zero_or]
  rfl

/-- Settles O52: every path of step 3 ends with the placement at the shadow, and after it only gravity moves Y. -/
theorem tickLeavesShadowPlusGravity : Obligations.TickLeavesShadowPlusGravity := by
  intro s t hs ht
  rw [eq_tick_of_exec hs ht]
  exact tick_atShadow s

/-- Settles O54: the shadow is in bounds, so after the tick X is at most 7 and Y at most 8; a command moves one by one. -/
theorem oneCommandKeepsPlacementNear : Obligations.OneCommandKeepsPlacementNear := by
  intro s t u c hs hinv ht hu v hv
  obtain rfl := eq_tick_of_exec hs ht
  have hready : Ready (tick s) := hostEffect_ready (i := .gtick) rfl hs
  rw [exec_gcmd_runs hready.1 hready.2.2] at hu
  obtain rfl : applyCmd c (tick s) = u := Host.Outcome.next.inj hu
  have hshadow := (blockInv_tick hinv hs.2.2).shadowInBounds hready.2.2
  have hplace : (tick s).x.toNat ≤ 7 ∧ (tick s).y.toNat ≤ 8 := tick_placement_le hshadow
  rcases List.mem_pair.mp hv with rfl | rfl
  · omega
  · exact applyCmd_placement_near c hplace.1 hplace.2

/-- Settles O55: where no row is full the pass changes nothing, and OR-ing the piece into the locked board adds nothing. -/
theorem lockFrameIsBoardWithoutClear : Obligations.LockFrameIsBoardWithoutClear := by
  intro s t hs hp ht hrows
  have hclear : clearRows (s.board.or (pieceFrame s.cfg s.pid s.gori s.gx s.gy)) s.level =
      (s.board.or (pieceFrame s.cfg s.pid s.gori s.gx s.gy), s.level) :=
    clearRows_of_notFull (fun i => by rw [Rows.get_or]; exact hrows i) _
  have hactive : (tickDecided s .locks).active = s.active := (tickDecided_keepsDisplay s _).active
  rw [eq_tick_of_exec hs ht, tick_of_path hp, ← hactive, fb_other_tickFinish, tickFinish_eq, tickDecided_locks]
  simp only [hclear, Rows.or_or_self, and_self]

/-- Settles O56: each path's step 3 field by field; steps 4 and 5 touch neither board, identity nor shadow. -/
theorem tickPathsChangeOnlyTheirState : Obligations.TickPathsChangeOnlyTheirState := by
  intro s t hs ht
  have hready : Ready (tick s) := hostEffect_ready (i := .gtick) rfl hs
  rw [eq_tick_of_exec hs ht]
  refine ⟨hready.2.2, hready.1, fun hp => ?commits, fun hp => ?side, fun hp => ?locks, fun hp => ?gameOver⟩
  all_goals rw [tick_of_path hp, tickFinish_eq]
  case commits => exact ⟨rfl, rfl, rfl⟩
  case side => exact ⟨rfl, rfl, rfl⟩
  case locks =>
    rw [tickDecided_locks]
    exact ⟨pieceId_xor_one_ne s.pid, rfl⟩
  case gameOver =>
    rw [tickDecided_gameOver]
    exact ⟨rfl, pieceId_xor_one_ne s.pid, rfl⟩

end Sys2Proof.Proofs
end

section
/-! Host operations over the whole state: traces, DINIT and GINIT, and an operation that preempts WROW. -/

namespace Sys2Proof.Machine

/-- The traces grow at their end only (R37). -/
theorem hostEffect_traces {i : Instr} (hi : i.isHost = true) (s : State) :
    s.ltrace <+: (hostEffect i s).ltrace ∧ s.ptrace <+: (hostEffect i s).ptrace :=
  hostEffect_cases (motive := fun t => s.ltrace <+: t.ltrace ∧ s.ptrace <+: t.ptrace)
    (fun slot => by
      rw [displayInit_eq]
      exact ⟨List.prefix_rfl, List.prefix_append _ _⟩)
    (by
      rw [writeRow_eq]
      exact ⟨List.prefix_append _ _, List.prefix_append _ _⟩)
    (fun t h => by
      rw [h.ltrace, h.ptrace]
      exact ⟨List.prefix_rfl, List.prefix_rfl⟩) hi

theorem hostEffect_cfg {i : Instr} (hi : i.isHost = true) (s : State) : (hostEffect i s).cfg = s.cfg :=
  hostEffect_cases (motive := fun t => t.cfg = s.cfg) (fun slot => by rw [displayInit_eq]) (by rw [writeRow_eq])
    (fun _ h => h.cfg) hi

/-- DINIT and GINIT wait for no ready flag (R213). -/
theorem exec_dinit_runs {s : State} (h0 : s.fault = 0) (slot : Slot) :
    exec (.dinit slot) s = .next (displayInit slot s) :=
  exec_host_runs (i := .dinit slot) rfl h0 (by simp [Instr.needsDisplay]) (by simp [Instr.needsGame])

theorem exec_ginit_runs {s : State} (h0 : s.fault = 0) : exec .ginit s = .next (gameInit s) :=
  exec_host_runs (i := .ginit) rfl h0 (by simp [Instr.needsDisplay]) (by simp [Instr.needsGame])

/-- Every operation of the table answers a next state. -/
theorem exec_next (i : Instr) (s : State) : ∃ t, exec i s = .next t := by
  by_cases hi : i.isHost = true
  · exact ⟨_, exec_host hi s⟩
  · cases i with
    | dinit | setbuf | wrow | ginit | gstart | gtick | gcmdNone | gcmdRot | gcmdLeft | gcmdRight | gcmdDown =>
      exact absurd rfl hi
    | _ => exact ⟨_, rfl⟩

/-- WROW's shift-out as an update of a state whose scanner stands as in s. -/
theorem scanRow_of_scannerKept {s t : State} (h : ScannerKept s t) :
    scanRow t = { t with
      data := (rowsel s.cfg s.cursor).getLsbD 0
      sclk := false
      latch := false
      ptrace := s.ptrace ++ shiftEvents (serialWord (pixelByte s) (rowsel s.cfg s.cursor))
      ltrace := s.ltrace ++ [(pixelByte s, rowsel s.cfg s.cursor)] } := by
  have hpixel : pixelByte t = pixelByte s := by rw [pixelByte, h.active, h.cursor, h.scanned, pixelByte]
  rw [scanRow_eq, hpixel, h.cfg, h.cursor, h.ltrace, h.ptrace]

/-- The tick commutes with any update of the lines and the traces. -/
theorem tick_lines_traces (s : State) (d k l : Bool) (lt : List (Byte × Byte)) (pt : List PinEvent) :
    tick { s with data := d, sclk := k, latch := l, ltrace := lt, ptrace := pt } =
      { tick s with data := d, sclk := k, latch := l, ltrace := lt, ptrace := pt } := by
  rw [tick_outputs s d k l s.pend s.faultOp lt pt, ← (tick_keepsScanner s).faultOp]

/-- A tick, command or queueing and WROW's shift-out read nothing that the other writes. -/
theorem hostEffect_scanRow {i : Instr} (hi : i = .gtick ∨ (∃ c, i = gcmd c) ∨ ∃ slot, i = .setbuf slot) (s : State) :
    hostEffect i (scanRow s) = scanRow (hostEffect i s) := by
  obtain rfl | ⟨c, rfl⟩ | ⟨slot, rfl⟩ := hi
  · rw [hostEffect_gtick, hostEffect_gtick, scanRow_of_scannerKept (tick_keepsScanner s), scanRow_eq, tick_lines_traces]
  · rw [hostEffect_gcmd, scanRow_of_scannerKept (applyCmd_keepsDisplay c s).toScannerKept, scanRow_eq]
    cases c <;> rfl
  · rw [hostEffect_setbuf, hostEffect_setbuf, scanRow_of_scannerKept (queueSlot_keepsScanner slot s), scanRow_eq]
    rfl

end Sys2Proof.Machine
end

section
/-! The statements about one step of the machine and about reset. -/

namespace Sys2Proof.Proofs
open Sys2Proof Sys2Proof.Machine

/-- Settles O22: the operation commutes with the shift-out, and WROW is the shift-out followed by the swap check. -/
theorem preemptedWrowIsAtomicWrow : Obligations.PreemptedWrowIsAtomicWrow := by
  intro s u v i hs hi hu hv
  have hhost : i.isHost = true := by
    obtain rfl | ⟨c, rfl⟩ | ⟨slot, rfl⟩ := hi
    · rfl
    · exact isHost_gcmd c
    · rfl
  have hscan : Ready (scanRow s) := by
    rw [scanRow_eq]
    exact hs
  rw [exec_host_ready hhost hs] at hv
  rw [exec_host_ready hhost hscan, hostEffect_scanRow hi] at hu
  obtain rfl := Host.Outcome.next.inj hu
  obtain rfl := Host.Outcome.next.inj hv
  rw [exec_host_ready (i := .wrow) rfl (hostEffect_ready hhost hs), exec_swapCheck]
  rfl

/-- Settles O23: nothing a step does writes the scanned slot, and only GTICK's effect writes the other. -/
theorem onlyTickWritesInactiveSlot : Obligations.OnlyTickWritesInactiveSlot := by
  intro s t hstep
  rcases step_cases hstep with rfl | ⟨op, rest, hp, -, ⟨c, rfl⟩ | ⟨i, hi, rfl, -, -, rfl⟩⟩
  · exact ⟨rfl, fun _ => ⟨rfl, rfl⟩⟩
  · exact ⟨rfl, fun _ => ⟨rfl, rfl⟩⟩
  · refine ⟨hostEffect_fb_active hi { s with port := rest }, fun hne => ?_⟩
    have htick : i ≠ .gtick := by
      rintro rfl
      exact hne (by rw [hp]; rfl)
    exact hostEffect_slots hi htick { s with port := rest }

/-- Settles O57: DINIT writes the scanner's registers and the lines, GINIT the game's, and neither reads the other's. -/
theorem dinitAndGinitCommute : Obligations.DinitAndGinitCommute := by
  intro s u v slot h0 hu hv
  obtain rfl := Host.Outcome.next.inj ((exec_dinit_runs h0 slot).symm.trans hu)
  obtain rfl := Host.Outcome.next.inj ((exec_ginit_runs h0).symm.trans hv)
  rw [exec_ginit_runs ((displayInit_fault slot s).trans h0), exec_dinit_runs ((gameInit_fault s).trans h0),
    displayInit_eq, displayInit_eq]
  rfl

/-- Settles O58: a dropped word changes only the port, a fault is raised only while FAULT = 0, and no effect writes FAULT. -/
theorem stepKeepsCatalogTracesAndFault : Obligations.StepKeepsCatalogTracesAndFault := by
  intro s t hstep
  rcases step_cases hstep with rfl | ⟨op, rest, -, h0, ⟨c, rfl⟩ | ⟨i, hi, -, -, -, rfl⟩⟩
  · exact ⟨rfl, List.prefix_rfl, List.prefix_rfl, fun _ => ⟨rfl, rfl⟩, id, id⟩
  · exact ⟨rfl, List.prefix_rfl, List.prefix_rfl, fun hf => absurd h0 hf, id, id⟩
  · obtain ⟨hl, hp⟩ := hostEffect_traces hi { s with port := rest }
    obtain ⟨hd, hg⟩ := hostEffect_readyFlags hi { s with port := rest }
    exact ⟨hostEffect_cfg hi _, hl, hp, fun hf => absurd h0 hf, hd, hg⟩

/-- Settles O1: the decoder run on each of the nine words. -/
theorem specWordsDecode : Obligations.SpecWordsDecode := by
  unfold Obligations.SpecWordsDecode
  decide

/-- Settles O5: only a host operation's word decodes; a halted block drops it, as its operation would leave the state. -/
theorem stepRunsDecodedOperation : Obligations.StepRunsDecodedOperation := by
  refine ⟨fun s op rest i hp hdec _ => ?_, fun s hp => step_idle hp⟩
  obtain ⟨hi, rfl⟩ := (decodeHost_ok_iff op i).mp hdec
  by_cases hf : s.fault = 0
  · exact step_host hi hp hf
  · exact (step_halted hp hf).trans (exec_host_halted (s := { s with port := rest }) hi hf).symm

/-- Settles O10: every operation's meaning is a next state, and so are a dropped word and a fault. -/
theorem everyOperationRunsToItsEnd : Obligations.EveryOperationRunsToItsEnd := by
  refine ⟨exec_next, fun s => ?_⟩
  cases hp : s.port with
  | nil => exact ⟨s, step_idle hp⟩
  | cons op rest =>
    rw [step_word hp]
    rcases acceptWord_cases op { s with port := rest } with ⟨-, heq⟩ | ⟨-, c, -, heq⟩ | ⟨-, i, -, heq⟩
    · exact ⟨_, heq⟩
    · exact ⟨_, heq⟩
    · rw [heq]
      exact exec_next i _

/-- Settles O11: each is a field of the reset state. -/
theorem resetGivesSpecifiedValues : Obligations.ResetGivesSpecifiedValues :=
  ⟨rfl, rfl, rfl, rfl, fun _ => rfl, rfl, rfl, rfl, rfl⟩

/-- Settles O12: nothing is ready, driven or held, so each condition is met by its premise or by the empty traces. -/
theorem resetMeetsInvariant : Obligations.ResetMeetsInvariant where
  faultLegal := by decide
  readyDriven := nofun
  undrivenEmpty := fun _ => ⟨rfl, rfl⟩
  clocksIdle := nofun
  linesHold := nofun
  shadowInBounds := nofun
  boardCleared := nofun
  transientsIdle := ⟨rfl, rfl, rfl⟩

end Sys2Proof.Proofs
end

section
/-! Runs of host operations (41_display.md section 3, 70_reset_and_hazards.md section 2). -/

namespace Sys2Proof.Machine

/-- The effect of a host operation on the state whose port has moved past its word. -/
def hostStep (s : State) (i : Instr) : State := hostEffect i { s with port := s.port.tail }

theorem hostStep_port {i : Instr} {is : List Instr} {s : State} (hi : i.isHost = true) (hp : s.port = wordsOf (i :: is)) :
    (hostStep s i).port = wordsOf is := by
  rw [hostStep, hostEffect_port hi, hp]
  rfl

/-- A run takes one host operation's effect at a time, where its guards pass. -/
theorem runSteps_host {i : Instr} {is : List Instr} {s : State} (n : Nat) (hi : i.isHost = true)
    (hp : s.port = wordsOf (i :: is)) (h0 : s.fault = 0) (hdisp : i.needsDisplay = true → s.dispReady = true)
    (hgame : i.needsGame = true → s.gameReady = true) : runSteps (n + 1) s = runSteps n (hostStep s i) := by
  apply runSteps_succ
  rw [step_host (rest := wordsOf is) hi hp h0, exec_host_runs (s := { s with port := wordsOf is }) hi h0 hdisp hgame,
    hostStep, hp]
  rfl

theorem hostStep_ready {i : Instr} (hi : i.isHost = true) {s : State} (h : Ready s) : Ready (hostStep s i) :=
  hostEffect_ready (s := { s with port := s.port.tail }) hi h

/-- A ready block performs any list of host operations, one after the other. -/
theorem runSteps_hostOps {is : List Instr} {s : State} (h : Ready s) (hhost : ∀ i ∈ is, i.isHost = true)
    (hp : s.port = wordsOf is) : runSteps is.length s = .next (is.foldl hostStep s) := by
  induction is generalizing s with
  | nil => rfl
  | cons i is ih =>
    obtain ⟨hi, his⟩ := List.forall_mem_cons.mp hhost
    rw [List.length_cons, runSteps_host _ hi hp h.1 (fun _ => h.2.1) (fun _ => h.2.2), List.foldl_cons]
    exact ih (hostStep_ready hi h) his (hostStep_port hi hp)

theorem foldl_hostStep_ready {is : List Instr} (hhost : ∀ i ∈ is, i.isHost = true) {s : State} (h : Ready s) :
    Ready (is.foldl hostStep s) := by
  induction is generalizing s with
  | nil => exact h
  | cons i is ih =>
    obtain ⟨hi, his⟩ := List.forall_mem_cons.mp hhost
    exact ih his (hostStep_ready hi h)

/-- Past its word, a host operation other than DINIT and WROW keeps the scanner. -/
theorem hostStep_keepsScanner {i : Instr} (hi : i.isHost = true) (hd : ∀ slot, i ≠ .dinit slot) (hw : i ≠ .wrow)
    (s : State) : ScannerKept { s with port := s.port.tail } (hostStep s i) :=
  hostEffect_keepsScanner hi hd hw { s with port := s.port.tail }

/-- CURSOR as the row it names. -/
theorem rowIndex_eq_ofNat (c : BitVec 3) : rowIndex c = Fin.ofNat 8 c.toNat :=
  Fin.ext (Nat.mod_eq_of_lt c.isLt).symm

theorem hostStep_wrow (s : State) :
    hostStep s .wrow = { s with
      port := s.port.tail
      data := (rowsel s.cfg s.cursor).getLsbD 0
      sclk := false
      latch := false
      ptrace := s.ptrace ++ shiftEvents (serialWord (pixelByte s) (rowsel s.cfg s.cursor))
      ltrace := s.ltrace ++ [(pixelByte s, rowsel s.cfg s.cursor)]
      cursor := s.cursor + 1
      active := if s.cursor = 7 ∧ s.pendV = true then s.pend else s.active
      pendV := if s.cursor = 7 then false else s.pendV } :=
  writeRow_eq { s with port := s.port.tail }

/-- At the wrap a WROW makes the pending slot active (R121). -/
theorem hostStep_wrow_wraps {s : State} (hc : s.cursor = 7) (hp : s.pendV = true) :
    (hostStep s .wrow).active = s.pend ∧ (hostStep s .wrow).pendV = false ∧ (hostStep s .wrow).cursor = 0 ∧
      (hostStep s .wrow).fb = s.fb := by
  rw [hostStep_wrow]
  exact ⟨if_pos ⟨hc, hp⟩, if_pos hc, congrArg (· + 1) hc, rfl⟩

/-- Before the wrap a WROW only advances the cursor. -/
theorem hostStep_wrow_below {s : State} (hc : s.cursor ≠ 7) :
    (hostStep s .wrow).active = s.active ∧ (hostStep s .wrow).pendV = s.pendV ∧ (hostStep s .wrow).pend = s.pend ∧
      (hostStep s .wrow).cursor.toNat = s.cursor.toNat + 1 ∧ (hostStep s .wrow).fb = s.fb := by
  have hnext : (s.cursor + 1).toNat = s.cursor.toNat + 1 := by bv_omega
  rw [hostStep_wrow]
  exact ⟨if_neg fun hswap => hc hswap.1, if_neg hc, rfl, hnext, rfl⟩

/-- The last row's number. -/
theorem cursor_toNat_of_eq_seven {c : BitVec 3} (h : c = 7) : c.toNat = 7 := congrArg BitVec.toNat h

/-- The row-select byte of the k-th WROW from here. -/
def rowselAt (s : State) (k : Nat) : Byte := s.cfg.rowsel.get (Fin.ofNat 8 (s.cursor.toNat + k))

/-- The pair that the k-th WROW from here emits while no swap comes between. -/
def scanPair (s : State) (k : Nat) : Byte × Byte :=
  ((s.fb s.active).get (Fin.ofNat 8 (s.cursor.toNat + k)), rowselAt s k)

theorem rowselAt_zero (s : State) : rowselAt s 0 = rowsel s.cfg s.cursor := by
  rw [rowsel, rowIndex_eq_ofNat]
  rfl

theorem scanPair_zero (s : State) : scanPair s 0 = (pixelByte s, rowsel s.cfg s.cursor) := by
  rw [scanPair, rowselAt_zero, pixelByte, rowIndex_eq_ofNat]
  rfl

theorem rowselAt_of_scannerKept {s t : State} (h : ScannerKept s t) : rowselAt t = rowselAt s := by
  funext k
  rw [rowselAt, h.cursor, h.cfg, rowselAt]

theorem scanPair_of_scannerKept {s t : State} (h : ScannerKept s t) : scanPair t = scanPair s := by
  funext k
  rw [scanPair, rowselAt_of_scannerKept h, h.active, h.cursor, h.scanned, scanPair]

/-- The row after the cursor's, mod 8. -/
theorem ofNat_cursor_succ (c : BitVec 3) (k : Nat) : Fin.ofNat 8 ((c + 1).toNat + k) = Fin.ofNat 8 (c.toNat + (k + 1)) := by
  have hsucc : (c + 1).toNat = (c.toNat + 1) % 8 := BitVec.toNat_add c 1
  apply Fin.ext
  rw [Fin.val_ofNat, Fin.val_ofNat, hsucc, Nat.mod_add_mod, Nat.add_assoc, Nat.add_comm 1]

theorem rowselAt_hostStep_wrow (s : State) : rowselAt (hostStep s .wrow) = fun k => rowselAt s (k + 1) := by
  funext k
  rw [hostStep_wrow, rowselAt, rowselAt, ofNat_cursor_succ]

/-- Below row 7 a WROW leaves the slot being scanned, so the next one emits the next row of it. -/
theorem scanPair_hostStep_wrow {s : State} (h : s.cursor ≠ 7) :
    scanPair (hostStep s .wrow) = fun k => scanPair s (k + 1) := by
  obtain ⟨hactive, -, -, hcursor, hfb⟩ := hostStep_wrow_below h
  funext k
  rw [scanPair, rowselAt_hostStep_wrow, hactive, hcursor, hfb, scanPair, Nat.add_assoc, Nat.add_comm 1]

/-- The first of n + 1 values, then the n others. -/
theorem map_range_succ {α : Type} (f : Nat → α) (n : Nat) :
    (List.range (n + 1)).map f = f 0 :: (List.range n).map fun k => f (k + 1) := by
  rw [List.range_succ_eq_map, List.map_cons, List.map_map]
  rfl

/-- A scan that ends by the wrap emits its rows in order from the slot that was active at its start: swaps come only at the
wrap. -/
theorem foldl_hostStep_ltrace {is : List Instr} {s : State}
    (hops : ∀ i ∈ is, i.isHost = true ∧ ∀ slot, i ≠ .dinit slot) (hfit : s.cursor.toNat + is.count .wrow ≤ 8) :
    (is.foldl hostStep s).ltrace = s.ltrace ++ (List.range (is.count .wrow)).map (scanPair s) := by
  induction is generalizing s with
  | nil => simp
  | cons i is ih =>
    obtain ⟨⟨hi, hd⟩, his⟩ := List.forall_mem_cons.mp hops
    rw [List.foldl_cons]
    by_cases hw : i = .wrow
    · subst hw
      rw [List.count_cons_self] at hfit ⊢
      have hltrace : (hostStep s .wrow).ltrace = s.ltrace ++ [scanPair s 0] := by rw [hostStep_wrow, scanPair_zero]
      by_cases hwrap : s.cursor = 7
      · have h7 := cursor_toNat_of_eq_seven hwrap
        have hlast : is.count .wrow = 0 := by omega
        have hlt := (hostStep s .wrow).cursor.isLt
        rw [ih his (by omega), hltrace, hlast, List.range_zero, List.map_nil, List.append_nil]
        rfl
      · obtain ⟨-, -, -, hcursor, -⟩ := hostStep_wrow_below hwrap
        rw [ih his (by omega), hltrace, map_range_succ, List.append_assoc,
          scanPair_hostStep_wrow hwrap]
        rfl
    · have k := hostStep_keepsScanner hi hd hw s
      rw [List.count_cons_of_ne hw] at hfit ⊢
      rw [ih his (by rw [k.cursor]; exact hfit), k.ltrace, scanPair_of_scannerKept k]
      rfl

/-- Over any number of WROWs the row-select bytes go round ROWSEL. -/
theorem foldl_hostStep_rowsel {is : List Instr} {s : State}
    (hops : ∀ i ∈ is, i.isHost = true ∧ ∀ slot, i ≠ .dinit slot) :
    (is.foldl hostStep s).ltrace.map Prod.snd =
      s.ltrace.map Prod.snd ++ (List.range (is.count .wrow)).map (rowselAt s) := by
  induction is generalizing s with
  | nil => simp
  | cons i is ih =>
    obtain ⟨⟨hi, hd⟩, his⟩ := List.forall_mem_cons.mp hops
    rw [List.foldl_cons, ih his]
    by_cases hw : i = .wrow
    · subst hw
      have hltrace : (hostStep s .wrow).ltrace.map Prod.snd = s.ltrace.map Prod.snd ++ [rowselAt s 0] := by
        rw [hostStep_wrow, rowselAt_zero, List.map_append]
        rfl
      rw [List.count_cons_self, map_range_succ, hltrace, List.append_assoc, rowselAt_hostStep_wrow]
      rfl
    · have k := hostStep_keepsScanner hi hd hw s
      rw [List.count_cons_of_ne hw, k.ltrace, rowselAt_of_scannerKept k]
      rfl

/-- GINIT, GSTART and GCMD keep the display over the port's step. -/
theorem hostStep_keepsDisplay {i : Instr} (hi : i = .ginit ∨ i = .gstart ∨ ∃ c, i = gcmd c) (s : State) :
    DisplayKept { s with port := s.port.tail } (hostStep s i) :=
  hostEffect_keepsDisplay hi { s with port := s.port.tail }

/-- Without a WROW, GINITs, GSTARTs and GCMDs keep the display. -/
theorem foldl_hostStep_keepsDisplay {is : List Instr} {s : State}
    (hops : ∀ i ∈ is, i = .wrow ∨ i = .ginit ∨ i = .gstart ∨ ∃ c, i = gcmd c) (hcount : is.count .wrow = 0) :
    (is.foldl hostStep s).active = s.active ∧ (is.foldl hostStep s).pendV = s.pendV ∧
      (is.foldl hostStep s).cursor = s.cursor ∧ (is.foldl hostStep s).fb = s.fb := by
  induction is generalizing s with
  | nil => exact ⟨rfl, rfl, rfl, rfl⟩
  | cons i is ih =>
    obtain ⟨hi, his⟩ := List.forall_mem_cons.mp hops
    have hw : i ≠ .wrow := by
      rintro rfl
      simp at hcount
    rw [List.count_cons_of_ne hw] at hcount
    have k := hostStep_keepsDisplay (hi.resolve_left hw) s
    obtain ⟨hactive, hpendV, hcursor, hfb⟩ := ih (s := hostStep s i) his hcount
    exact ⟨hactive.trans k.active, hpendV.trans k.pendV, hcursor.trans k.cursor, hfb.trans k.fb⟩

/-- With a slot pending, the WROWs up to the wrap make it active, whatever GINITs, GSTARTs and GCMDs come between (R121). -/
theorem foldl_hostStep_swaps {is : List Instr} {s : State}
    (hops : ∀ i ∈ is, i = .wrow ∨ i = .ginit ∨ i = .gstart ∨ ∃ c, i = gcmd c) (hpendV : s.pendV = true)
    (hcount : s.cursor.toNat + is.count .wrow = 8) :
    (is.foldl hostStep s).active = s.pend ∧ (is.foldl hostStep s).pendV = false ∧
      (is.foldl hostStep s).cursor = 0 ∧ (is.foldl hostStep s).fb = s.fb := by
  induction is generalizing s with
  | nil =>
    have hlt := s.cursor.isLt
    rw [List.count_nil] at hcount
    omega
  | cons i is ih =>
    obtain ⟨hi, his⟩ := List.forall_mem_cons.mp hops
    rw [List.foldl_cons]
    by_cases hw : i = .wrow
    · subst hw
      rw [List.count_cons_self] at hcount
      by_cases hwrap : s.cursor = 7
      · have h7 := cursor_toNat_of_eq_seven hwrap
        obtain ⟨hactive, hpend, hcursor, hfb⟩ :=
          foldl_hostStep_keepsDisplay (is := is) (s := hostStep s .wrow) his (by omega)
        rw [hactive, hpend, hcursor, hfb]
        exact hostStep_wrow_wraps hwrap hpendV
      · obtain ⟨-, hstill, hpend, hcursor, hfb⟩ := hostStep_wrow_below hwrap
        rw [← hpend, ← hfb]
        exact ih his (hstill.trans hpendV) (by omega)
    · have k := hostStep_keepsDisplay (hi.resolve_left hw) s
      rw [List.count_cons_of_ne hw] at hcount
      obtain ⟨hactive, hpend, hcursor, hfb⟩ := ih his (k.pendV.trans hpendV) (by rw [k.cursor]; exact hcount)
      exact ⟨hactive.trans k.pend, hpend, hcursor, hfb.trans k.fb⟩

/-- A run of GCMDs moves the working placement and takes their words. -/
theorem foldl_hostStep_gcmds {cs : List Command} {s : State} (hp : s.port = wordsOf (cs.map gcmd)) :
    let t := (cs.map gcmd).foldl hostStep s
    t = { s with port := [], x := t.x, y := t.y, ori := t.ori } := by
  induction cs generalizing s with
  | nil =>
    have hport : s.port = [] := hp
    rw [List.map_nil, List.foldl_nil, ← hport]
  | cons c cs ih =>
    have hstep := ih (hostStep_port (isHost_gcmd c) hp)
    have hcmd : hostStep s (gcmd c) = applyCmd c { s with port := s.port.tail } := by rw [hostStep, hostEffect_gcmd]
    rw [hcmd, applyCmd_eq] at hstep
    rw [List.map_cons, List.foldl_cons, hcmd, applyCmd_eq]
    exact hstep

/-- A Side tick takes the working placement back to the shadow and keeps the game (R170). -/
theorem tick_side {s : State} (h : boundsOf s.cfg s.pid s.ori s.x s.y = .side) :
    (tick s).x = s.gx ∧ (tick s).ori = s.gori ∧ ((tick s).y = s.gy ∨ (tick s).y = s.gy + 1) ∧
      (tick s).board = s.board ∧ (tick s).pid = s.pid ∧ (tick s).level = s.level := by
  have htick := tick_of_path (tickPath_revertsSide h)
  rw [tickDecided_revertsSide, tickFinish_eq] at htick
  have hgy : (tick s).gy = s.gy := by rw [htick]
  have hy : (tick s).y = s.gy ∨ (tick s).y = s.gy + 1 := by
    obtain ⟨-, -, hy⟩ := tick_atShadow s
    rw [hgy] at hy
    exact hy.imp_right And.left
  exact ⟨by rw [htick], by rw [htick], hy, by rw [htick], by rw [htick], by rw [htick]⟩

/-- GINIT and GSTART leave an empty board and piece 0 at the spawn placement, and the display as it was. -/
theorem hostStep_gstart_ginit (s : State) :
    let v := hostStep (hostStep s .ginit) .gstart
    v.active = s.active ∧ v.cfg = s.cfg ∧ v.board = Rows.zero ∧ v.pid = 0 ∧ v.x = spawnX ∧ v.y = spawnY ∧
      v.ori = spawnO := by
  have htoggle : (1 : PieceId) ^^^ 1 = 0 := by decide
  exact ⟨rfl, rfl, rfl, htoggle, rfl, rfl, rfl⟩

/-- DINIT points the scanner at row 0 of its slot and keeps the slots and the game. -/
theorem hostStep_dinit (s : State) (slot : Slot) :
    let t := hostStep s (.dinit slot)
    t.active = slot ∧ t.cursor = 0 ∧ t.pendV = false ∧ t.dispReady = true ∧ t.cfg = s.cfg ∧ t.fb = s.fb ∧
      t.board = s.board ∧ t.pid = s.pid := by
  rw [hostStep, hostEffect_dinit, displayInit_eq]
  exact ⟨rfl, rfl, rfl, rfl, rfl, rfl, rfl, rfl⟩

theorem disjoint_zero (b : Rows) : disjoint Rows.zero b = true :=
  (disjoint_iff _ _).mpr fun i => by
    rw [Rows.get_zero]
    exact BitVec.zero_and

/-- The first tick of a game commits the spawned piece and composes it alone. -/
theorem tick_spawned {s : State} (hboard : s.board = Rows.zero) (hx : s.x = spawnX) (hy : s.y = spawnY)
    (hori : s.ori = spawnO) :
    (tick s).fb (1 - s.active) = pieceFrame s.cfg s.pid spawnO spawnX spawnY ∧ (tick s).board = Rows.zero ∧
      (tick s).pid = s.pid := by
  have hp : tickPath s = .commits := by
    rw [tickPath_eq_commits_iff, hboard, hx, hy, hori]
    exact ⟨boundsOf_spawn _ _, disjoint_zero _⟩
  have hframe := fb_other_tickFinish (tickDecided s .commits)
  rw [tick_of_path hp]
  refine ⟨hframe.trans ?_, ?_, ?_⟩
  · rw [← hx, ← hy, ← hori]
    exact (congrArg (Rows.or · _) hboard).trans (Rows.zero_or _)
  · rw [tickFinish_eq]
    exact hboard
  · rw [tickFinish_eq]
    rfl

/-- After DINIT and GINIT the block is ready, whatever it held. -/
theorem boot_ready {s : State} (h0 : s.fault = 0) (slot : Slot) : Ready (hostStep (hostStep s (.dinit slot)) .ginit) :=
  ⟨(hostEffect_fault _ _).trans h0, (hostStep_dinit s slot).2.2.2.1, rfl⟩

/-- A program that starts with DINIT and GINIT runs from any unfaulted state. -/
theorem runSteps_boot {is : List Instr} {s : State} {slot : Slot} (h0 : s.fault = 0)
    (hp : s.port = wordsOf (.dinit slot :: .ginit :: is)) (hhost : ∀ i ∈ is, i.isHost = true) :
    runSteps (is.length + 2) s = .next (is.foldl hostStep (hostStep (hostStep s (.dinit slot)) .ginit)) := by
  have hp' : (hostStep s (.dinit slot)).port = wordsOf (.ginit :: is) := hostStep_port rfl hp
  have h0' : (hostStep s (.dinit slot)).fault = 0 := (hostEffect_fault _ _).trans h0
  rw [runSteps_host _ rfl hp h0 (by simp [Instr.needsDisplay]) (by simp [Instr.needsGame]),
    runSteps_host _ rfl hp' h0' (by simp [Instr.needsDisplay]) (by simp [Instr.needsGame])]
  exact runSteps_hostOps (boot_ready h0 slot) hhost (hostStep_port rfl hp')

/-- After GINIT and GSTART the tick composes the spawned piece, and a DINIT of the other slot shows it. -/
theorem firstFrame_shown (s : State) :
    let t := [Instr.gstart, .gtick, .dinit (1 - s.active)].foldl hostStep (hostStep s .ginit)
    t.active = 1 - s.active ∧ t.cursor = 0 ∧ t.pendV = false ∧
      t.fb (1 - s.active) = pieceFrame s.cfg 0 spawnO spawnX spawnY ∧ t.board = Rows.zero ∧ t.pid = 0 := by
  have hspawn := hostStep_gstart_ginit s
  rw [List.foldl_cons, List.foldl_cons, List.foldl_cons, List.foldl_nil]
  generalize hostStep (hostStep s .ginit) .gstart = w at hspawn ⊢
  obtain ⟨hactive, hcfg, hboard, hpid, hx, hy, hori⟩ := hspawn
  obtain ⟨hframe, htboard, htpid⟩ := tick_spawned (s := { w with port := w.port.tail }) hboard hx hy hori
  obtain ⟨hactive', hcursor, hpendV, -, -, hfb, hboard', hpid'⟩ := hostStep_dinit (hostStep w .gtick) (1 - s.active)
  have hshown : (hostStep w .gtick).fb (1 - w.active) = pieceFrame w.cfg w.pid spawnO spawnX spawnY := hframe
  rw [hactive, hcfg, hpid] at hshown
  exact ⟨hactive', hcursor, hpendV, by rw [hfb]; exact hshown, hboard'.trans htboard, hpid'.trans (htpid.trans hpid)⟩

end Sys2Proof.Machine
end

section
/-! The statements about runs of host operations. -/

namespace Sys2Proof.Proofs
open Sys2Proof Sys2Proof.Machine

/-- Settles O19: a scan from row 0 that ends by the wrap emits its rows in order. -/
theorem scanShowsOneWholeFrame : Obligations.ScanShowsOneWholeFrame := by
  intro s is hs hc hops hcount
  refine ⟨_, runSteps_hostOps (s := withHostOps is s) hs (fun i hi => (hops i hi).1) rfl, ?_⟩
  have hcursor : (withHostOps is s).cursor.toNat = 0 := congrArg BitVec.toNat hc
  have hpair : scanPair (withHostOps is s) =
      fun k => ((s.fb s.active).get (Fin.ofNat 8 k), s.cfg.rowsel.get (Fin.ofNat 8 k)) := by
    funext k
    rw [scanPair, rowselAt, hcursor, Nat.zero_add]
    rfl
  rw [foldl_hostStep_ltrace hops (by omega), hpair]
  rfl

/-- Settles O20: the tick queues the other slot, and the WROWs up to the wrap make it active with nothing else written. -/
theorem tickFrameShownAtNextWrap : Obligations.TickFrameShownAtNextWrap := by
  intro s u is hs hu hops hcount
  have htick : u = tick s := eq_tick_of_exec hs hu
  have hready : Ready u := htick ▸ hostEffect_ready (i := .gtick) rfl hs
  have hqueue : u.pendV = true ∧ u.pend = 1 - s.active := by
    rw [htick, tick_eq, tickFinish_eq]
    exact ⟨rfl, congrArg (1 - ·) (tickDecided_keepsDisplay s _).active⟩
  have hhost : ∀ i ∈ is, i.isHost = true := by
    intro i hi
    obtain rfl | rfl | rfl | ⟨c, rfl⟩ := hops i hi
    · rfl
    · rfl
    · rfl
    · exact isHost_gcmd c
  have hfull : u.cursor.toNat + is.count .wrow = 8 := by
    have hlt := u.cursor.isLt
    omega
  obtain ⟨hactive, hpendV, hcursor, hfb⟩ := foldl_hostStep_swaps (s := withHostOps is u) hops hqueue.1 hfull
  have hact := hactive.trans hqueue.2
  refine ⟨_, runSteps_hostOps (s := withHostOps is u) hready hhost rfl, hact, hpendV, hcursor, ?_⟩
  rw [hfb, hact]
  rfl

/-- Settles O21: each WROW emits ROWSEL's byte at the cursor and advances it mod 8. -/
theorem rowSelectBytesRotate : Obligations.RowSelectBytesRotate := fun s is hs hops =>
  ⟨_, runSteps_hostOps (s := withHostOps is s) hs (fun i hi => (hops i hi).1) rfl, foldl_hostStep_rowsel hops⟩

/-- Settles O24: the first two words make the block ready; GSTART spawns piece 0 on an empty board, the tick commits it and
composes it into the other slot, and the second DINIT makes that slot active. -/
theorem cleanFirstFrameSequence : Obligations.CleanFirstFrameSequence := by
  intro s slot h0
  let is : List Instr := [.gstart, .gtick, .dinit (1 - slot)]
  let r := withHostOps (.dinit slot :: .ginit :: is) s
  have hhost : ∀ i ∈ is, i.isHost = true := by simp [is, Instr.isHost]
  have hfault := (foldl_hostStep_ready hhost (boot_ready (s := r) h0 slot)).1
  obtain ⟨hslot, -, -, -, hcfg, -⟩ := hostStep_dinit r slot
  have hframe := firstFrame_shown (hostStep r (.dinit slot))
  rw [hslot, hcfg] at hframe
  obtain ⟨hactive, hcursor, hpendV, hshown, hboard, hpid⟩ := hframe
  exact ⟨_, runSteps_boot (s := r) h0 rfl hhost, hactive, hcursor, hpendV, hfault, by rw [hactive]; exact hshown,
    hboard, hpid⟩

/-- Settles O53: GCMDs only move the working placement, so the Side tick's REVERT goes back to the shadow they left alone. -/
theorem sideReversionUndoesEveryCommand : Obligations.SideReversionUndoesEveryCommand := by
  intro s cs hs
  have hhost : ∀ i ∈ cs.map gcmd, i.isHost = true := by
    intro i hi
    obtain ⟨c, -, rfl⟩ := List.mem_map.mp hi
    exact isHost_gcmd c
  have hrun := runSteps_hostOps (s := withHostOps (cs.map gcmd) s) hs hhost rfl
  have hready := foldl_hostStep_ready hhost (s := withHostOps (cs.map gcmd) s) hs
  have hmoves := foldl_hostStep_gcmds (s := withHostOps (cs.map gcmd) s) rfl
  rw [List.length_map] at hrun
  generalize (cs.map gcmd).foldl hostStep (withHostOps (cs.map gcmd) s) = u at hrun hready hmoves
  have hkept : u = { s with port := [], x := u.x, y := u.y, ori := u.ori } := hmoves
  refine ⟨u, hrun, hkept, fun hside => ⟨tick u, exec_gtick_ready hready, ?_⟩⟩
  obtain ⟨hx, hori, hy, hboard, hpid, hlevel⟩ := tick_side hside
  have hgy : u.gy = s.gy := by rw [hkept]
  rw [hgy] at hy
  exact ⟨hx.trans (by rw [hkept]), hori.trans (by rw [hkept]), hy, hboard.trans (by rw [hkept]),
    hpid.trans (by rw [hkept]), hlevel.trans (by rw [hkept])⟩

end Sys2Proof.Proofs
end

section
/-! The external chain driven by SHIFT_OUT (60_exceptions.md R226). -/

namespace Sys2Proof

theorem bytes_eq_of_append_eq {a b c d : Byte} (h : a ++ b = c ++ d) : a = c ∧ b = d := by
  constructor
  · have hhigh := congrArg (BitVec.extractLsb' 8 8) h
    rwa [BitVec.extractLsb'_append_eq_left, BitVec.extractLsb'_append_eq_left] at hhigh
  · have hlow := congrArg (BitVec.extractLsb' 0 8) h
    rwa [BitVec.extractLsb'_append_eq_right, BitVec.extractLsb'_append_eq_right] at hlow

end Sys2Proof

namespace Sys2Proof.Machine

theorem chainRun_append (c : Chain) (es fs : List PinEvent) : chainRun c (es ++ fs) = chainRun (chainRun c es) fs :=
  List.foldl_append

/-- One bit's events on idle clock lines: the chain shifts once with DATA at that bit. -/
theorem chainRun_bit (c : Chain) (v : Bool) (hs : c.sclk = false) :
    chainRun c [(.data, v), (.sclk, true), (.sclk, false)] = { chainShift { c with data := v } with sclk := false } := by
  simp only [chainRun, List.foldl_cons, List.foldl_nil, chainEvent, hs]
  rfl

/-- FAR and NEAR as one 16-bit register, FAR the high byte. -/
def chainReg (c : Chain) : SerialWord := c.far ++ c.near

/-- The two registers shift as one: DATA enters at bit 0, and every other bit moves up by one. -/
theorem getLsbD_chainReg_shift (c : Chain) (j : Nat) :
    (chainReg (chainShift c)).getLsbD j = if j = 0 then c.data else decide (j < 16) && (chainReg c).getLsbD (j - 1) := by
  simp only [chainReg, chainShift, BitVec.getLsbD_append, BitVec.getLsbD_or, BitVec.getLsbD_shiftLeft,
    BitVec.getLsbD_setWidth, BitVec.getLsbD_ofBool]
  rcases Nat.eq_zero_or_pos j with rfl | hj
  · simp
  · rcases Nat.lt_trichotomy j 8 with h | rfl | h
    · have hprev : j - 1 < 8 := by omega
      have hfits : j < 16 := by omega
      simp [h, hj.ne', hprev, hfits]
    · simp
    · have hhigh : ¬j < 8 := by omega
      have hprev : ¬j - 1 < 8 := by omega
      have hlow : j - 8 ≠ 0 := by omega
      have hfar : j - 8 < 8 ↔ j < 16 := by omega
      simp [hhigh, hj.ne', hprev, hlow, hfar, Nat.sub_right_comm j 8 1]

/-- After the first n of a word's 16 bits the chain's low n bits are the word's high n bits, and the clock lines are idle. -/
structure Shifted (w : SerialWord) (n : Nat) (c : Chain) : Prop where
  sclk : c.sclk = false
  latch : c.latch = false
  bits : ∀ j, j < n → (chainReg c).getLsbD j = w.getLsbD (16 - n + j)

/-- One more bit of the word shifts in below the others (R117, R226). -/
theorem shifted_succ {w : SerialWord} {n : Nat} {c : Chain} (hn : n < 16) (h : Shifted w n c) :
    Shifted w (n + 1) (chainRun c [(.data, w.getLsbD (15 - n)), (.sclk, true), (.sclk, false)]) := by
  rw [chainRun_bit c _ h.sclk]
  refine ⟨rfl, h.latch, fun j hj => ?_⟩
  have hbit := getLsbD_chainReg_shift { c with data := w.getLsbD (15 - n) } j
  refine hbit.trans ?_
  rcases Nat.eq_zero_or_pos j with rfl | hpos
  · have hindex : 16 - (n + 1) + 0 = 15 - n := by omega
    rw [if_pos rfl, hindex]
  · have hprev := h.bits (j - 1) (by omega)
    have hfits : j < 16 := by omega
    have hindex : 16 - n + (j - 1) = 16 - (n + 1) + j := by omega
    rw [if_neg hpos.ne', decide_eq_true hfits, Bool.true_and, ← hindex]
    exact hprev

/-- The bits of a word, most significant first, fill the chain's low end. -/
theorem shifted_range {w : SerialWord} {c : Chain} (hs : c.sclk = false) (hl : c.latch = false) {n : Nat} (hn : n ≤ 16) :
    Shifted w n (chainRun c ((List.range n).flatMap fun k =>
      [(Line.data, w.getLsbD (15 - k)), (Line.sclk, true), (Line.sclk, false)])) := by
  induction n with
  | zero => exact ⟨hs, hl, nofun⟩
  | succ n ih =>
    rw [List.range_succ, List.flatMap_append, chainRun_append]
    exact shifted_succ hn (ih (Nat.le_of_succ_le hn))

/-- After all 16 bits the registers hold the word. -/
theorem chainReg_of_shifted {w : SerialWord} {c : Chain} (h : Shifted w 16 c) : chainReg c = w :=
  BitVec.eq_of_getLsbD_eq fun j hj => (h.bits j hj).trans (by rw [Nat.sub_self, Nat.zero_add])

/-- The pulse of LATCH on an idle line takes the registers to the outputs (R226). -/
theorem chainRun_latch (c : Chain) (hl : c.latch = false) :
    chainRun c [(.latch, true), (.latch, false)] = { chainLatch c with latch := false } := by
  simp only [chainRun, List.foldl_cons, List.foldl_nil, chainEvent, hl]
  rfl

end Sys2Proof.Machine
end

section
/-! Common cells, footprints inside the field, and the countdown to gravity (40_catalog.md R101, 42_collision.md, 43_game.md
R177). -/

namespace Sys2Proof

/-- Two bytes have a common bit exactly where their AND is not 0. -/
theorem and_ne_zero_iff (a b : Byte) : a &&& b ≠ 0 ↔ ∃ k, a.getLsbD k = true ∧ b.getLsbD k = true := by
  constructor
  · intro h
    by_contra hnone
    apply h
    apply BitVec.eq_of_getLsbD_eq
    intro k _
    rw [BitVec.getLsbD_and]
    have hk := not_exists.mp hnone k
    simpa using hk
  · rintro ⟨k, ha, hb⟩ h
    have hbit : (a &&& b).getLsbD k = true := by rw [BitVec.getLsbD_and, ha, hb]; rfl
    rw [h] at hbit
    simp at hbit

/-- The source's bitwise form of the overlap test keeps the bits set in both. -/
theorem not_xor_and (a b : Byte) : ~~~(a ^^^ b) &&& a = a &&& b := by
  apply BitVec.eq_of_getLsbD_eq
  intro k hk
  simp only [BitVec.getLsbD_and, BitVec.getLsbD_not, BitVec.getLsbD_xor, hk, decide_true, Bool.true_and]
  cases a.getLsbD k <;> cases b.getLsbD k <;> rfl

/-- R178's period, counted from R down to the threshold L. -/
theorem countdown_reaches_iff (R L : Byte) {n : Nat} (hn : n < 256) :
    R - BitVec.ofNat 8 n - 1 = L ↔ n = (R.toNat + 255 - L.toNat) % 256 := by
  constructor <;> intro h <;> bv_omega

end Sys2Proof

namespace Sys2Proof.Machine

/-! ## The footprint (R101, R102) -/

/-- A cell of an entry's bitmap lies inside its bounding box (R101 (c)). -/
theorem bitmap_cell_inside (c : Config) (p : PieceId) (o : Orient) {r k : Nat} (hr : r < 3)
    (hbit : ((catRead c p o).row r).getLsbD k = true) :
    k < (catRead c p o).w.toNat ∧ r < (catRead c p o).h.toNat := by
  obtain ⟨-, -, hrows⟩ := (CatEntry.admitted_iff _).mp (catRead_admitted c p o)
  obtain ⟨hcolumns, hempty⟩ := hrows r hr
  constructor
  · by_contra hk
    rw [hcolumns k (Nat.le_of_not_lt hk)] at hbit
    cases hbit
  · by_contra hk
    rw [hempty (Nat.le_of_not_lt hk), BitVec.ofNat_eq_ofNat, BitVec.getLsbD_zero] at hbit
    cases hbit

/-- Where the bounds check passes, the whole footprint lies in the field. -/
theorem footprint_in_field {c : Config} {p : PieceId} {o : Orient} {x y : Coord} (hb : boundsOf c p o x y = .none)
    {i k : Nat} (h : inFootprint (catRead c p o) x y i k) : i < 8 ∧ k < 8 := by
  obtain ⟨r, hr, l, -, hbit, rfl, rfl⟩ := h
  obtain ⟨hl, hr'⟩ := bitmap_cell_inside c p o (Nat.lt_succ_of_le hr) hbit
  obtain ⟨hx, hy⟩ := inBounds_of_none hb
  omega

/-! ## Gravity (43_game.md R177) -/

/-- Away from the threshold a state with count v only counts down. -/
theorem speedStep_counts {s : State} {v : Byte} (h : v - 1 ≠ s.level) :
    speedStep { s with speed := v } = { s with speed := v - 1 } := by
  rw [speedStep_eq, if_neg h, if_neg h]

/-- At the threshold gravity moves Y down and the count starts again. -/
theorem speedStep_fires {s : State} {v : Byte} (h : v - 1 = s.level) :
    speedStep { s with speed := v } = { s with y := s.y + 1, speed := s.cfg.speedReload } := by
  rw [speedStep_eq, if_pos h, if_pos h]

/-- Before the period's last step the count only goes down. -/
theorem speedStep_iterate {s : State} {n : Nat} (hn : n ≤ (s.speed.toNat + 255 - s.level.toNat) % 256) :
    speedStep^[n] s = { s with speed := s.speed - BitVec.ofNat 8 n } := by
  induction n with
  | zero => rw [Function.iterate_zero_apply, BitVec.sub_zero]
  | succ n ih =>
    have hlt : n < 256 := by omega
    have hcounts : s.speed - BitVec.ofNat 8 n - 1 ≠ s.level := by
      rw [Ne, countdown_reaches_iff _ _ hlt]
      omega
    have hnext : s.speed - BitVec.ofNat 8 (n + 1) = s.speed - BitVec.ofNat 8 n - 1 := by bv_omega
    rw [Function.iterate_succ_apply', ih (Nat.le_of_succ_le hn), speedStep_counts hcounts, hnext]

end Sys2Proof.Machine
end

section
/-! The statements about the chain, the collision engine, row clearing and gravity. -/

namespace Sys2Proof.Proofs
open Sys2Proof Sys2Proof.Machine

/-- Settles O18: the 16 bits fill the two registers, and the pulse of LATCH takes them to the outputs. -/
theorem chainLatchesSerialWord : Obligations.ChainLatchesSerialWord := by
  intro c p r hs hl
  have hshift := shifted_range (w := p ++ r) hs hl (Nat.le_refl 16)
  rw [shiftEvents_eq_countdown, chainRun_append]
  generalize chainRun c _ = d at hshift
  obtain ⟨hfar, hnear⟩ := bytes_eq_of_append_eq (chainReg_of_shifted hshift)
  rw [chainRun_latch d hshift.latch]
  exact ⟨hfar, hnear, hshift.sclk, rfl⟩

/-- Settles O28: every extent is at least 1, so a position of 9 or more runs past the field; 0 - 1 is 15. -/
theorem wrappedPositionIsOutOfBounds : Obligations.WrappedPositionIsOutOfBounds := by
  intro c p o x y
  obtain ⟨hw, -, hh, -⟩ := catRead_extents c p o
  have hfifteen : (0 - 1 : Coord).toNat = 15 := by decide
  refine ⟨fun hx => boundsOf_side y (by omega), fun hy hside => ?_, boundsOf_side y (by omega)⟩
  rcases boundsOf_cases c p o x y with ⟨-, heq⟩ | ⟨-, -, heq⟩ | ⟨-, hy', -⟩
  · exact absurd heq hside
  · exact heq
  · omega

/-- Settles O30: the blit cell by cell, and every bitmap cell inside its bounding box. -/
theorem blitWritesFootprint : Obligations.BlitWritesFootprint := by
  intro c p o x y d
  exact ⟨fun i k hk => getLsbD_get_blitRows _ x y d i hk, fun hb i k hcell => footprint_in_field hb hcell⟩

/-- Settles O32: each law holds row by row, and a common bit is what a nonzero AND has. -/
theorem overlapIsSymmetricCellTest : Obligations.OverlapIsSymmetricCellTest := by
  intro a b
  refine ⟨?symmetric, ?cells, ?bitwise⟩
  case symmetric =>
    rw [Bool.eq_iff_iff, disjoint_iff, disjoint_iff]
    simp only [BitVec.and_comm]
  case cells => simp only [disjoint_eq_false_iff, and_ne_zero_iff]
  case bitwise => simp only [disjoint_iff, not_xor_and]

/-- Settles O43: after its last row the pass has scanned the whole list. -/
theorem rowClearRemovesEveryFullRow : Obligations.RowClearRemovesEveryFullRow := fun s =>
  ⟨_, exec_rowClear s, clearRows_spec s.board s.level⟩

/-- Settles O47: the count reaches the threshold first at the period's last step, which reloads it. -/
theorem gravityPeriodLaw : Obligations.GravityPeriodLaw := by
  intro s hs
  rw [← hs]
  intro period
  have hbefore (n : Nat) (hn : n < period) : speedStep^[n] s = { s with speed := s.speed - BitVec.ofNat 8 n } :=
    speedStep_iterate (Nat.le_of_lt_succ hn)
  have hfires : s.speed - BitVec.ofNat 8 ((s.speed.toNat + 255 - s.level.toNat) % 256) - 1 = s.level :=
    (countdown_reaches_iff _ _ (Nat.mod_lt _ (by decide))).mpr rfl
  refine ⟨hbefore, (Function.iterate_succ_apply' _ _ _).trans ?_⟩
  rw [hbefore _ (Nat.lt_succ_self _), speedStep_fires hfires, hs]

end Sys2Proof.Proofs
end
